-- ==== Sys2Proof/Word.lean ====
section
/-! DEFINITION. The machine's two word types. Bit 0 is the least significant bit (R9). -/

namespace Sys2Proof

/-- A byte, bit 0 least significant (R9). -/
abbrev Byte := BitVec 8

/-- A 32-bit register of the command port: `CW`, `ARGW` (R21), and `TO.ticks` (R32). -/
abbrev Word := BitVec 32

end Sys2Proof
end

