-- ==== Sys2Proof/Syntax.lean ====
section
/-! DEFINITION. The operations of the opcode table, one constructor per row. Operands that stand in the command
word (fields `A`, `B`, `INV` of R97) are arguments; operands that stand in `ARGW` and `PAY` are registers the
meaning reads (R98, R99, R104). -/

namespace Sys2Proof

/-- One constructor per row of spec/opcode_table.json. -/
inductive Instr where
  /-- `SAMPLE`, R130; the timeout stands in `ARGW`. -/
  | sample
  /-- `WRITE_TEXT`, R171; the text stands in `PAY`. -/
  | writeText (line col : Byte) (inverted : Bool)
  /-- `WRITE_REGION`, R173; the bytes stand in `PAY`. -/
  | writeRegion (line col : Byte)
  /-- `OV_CLOCK`, R191; the timestamp stands in `ARGW`. -/
  | ovClock
  /-- `OV_BATTERY`, R192. -/
  | ovBattery (pct : Byte)
  /-- `OV_CONNECTION`, R193. -/
  | ovConnection (on : Byte)
  /-- `OV_SAMPLING`, R194. -/
  | ovSampling (on : Byte)
  /-- `OV_FIX`, R195; with `fix = 1` the coordinates stand in `PAY` (R104). -/
  | ovFix (fix : Byte)
  /-- `CLEAR_SCREEN`, R215. -/
  | clearScreen
  /-- `FLUSH_LINE`, R216. -/
  | flushLine (index : Byte)
  /-- `FLUSH_RANGE`, R217: lines `[start, stop)`; `stop` is the spec's `end`. -/
  | flushRange (start stop : Byte)
  /-- `WAIT_IDLE`, R219. -/
  | waitIdle
  /-- `REFRESH_CONFIGURE`, R241. -/
  | refreshConfigure
  /-- `FLUSH_ALL`, R218: a pseudo-operation, another name of the words of `FLUSH_RANGE 0, 96`. -/
  | flushAll
  /-- `CMD_CLEAR`, R91, R94: the wire command byte of a clear-screen transaction. -/
  | cmdClear
  /-- `CMD_WRITE_ONE_LINE`, R92, R94: the wire command byte of a single-line transaction. -/
  | cmdWriteOneLine
  /-- `CMD_WRITE_MULTIPLE_LINES`, R93, R94: the wire command byte of a multi-line transaction. -/
  | cmdWriteMultipleLines
  deriving DecidableEq, Repr

/-- The operation whose words a row stands for: `FLUSH_ALL` has no encoding of its own and is
`FLUSH_RANGE start=0, end=96` (R101, R218). -/
def Instr.canonical : Instr → Instr
  | .flushAll => .flushRange 0 96
  | i => i

end Sys2Proof
end

