-- ==== Sys2Proof/Config.lean ====
section
/-! DEFINITION. What one board fixes (R7, R8, R36, R190) and what the environment chooses freely (R46).
R7's constants (96 lines, 14-byte records, 8x8 glyphs, base 32, transaction lengths) are numerals of the
meanings; R8's open parameters are the fields of `Config`. -/

namespace Sys2Proof

/-- One character cell in both polarities: eight row bytes each, one per line (R36). The two tables are
independent: no relation between them is assumed. -/
structure Glyph where
  normal : Vector Byte 8
  inverted : Vector Byte 8
  deriving DecidableEq, Repr

/-- A fixed screen position: first line and column offset (R190). -/
structure Place where
  line : Nat
  col : Nat
  deriving DecidableEq, Repr

/-- The implementation parameters of R8 and R190. -/
structure Config where
  /-- `CMD_CLEAR` (R95). -/
  cmdClear : Byte
  /-- `CMD_WRITE_ONE_LINE` (R95). -/
  cmdWriteOneLine : Byte
  /-- `CMD_WRITE_MULTIPLE_LINES` (R95). -/
  cmdWriteMultipleLines : Byte
  /-- `VCOM_BIT`: the bit of a command byte that the block always sends as 0 (R94). -/
  vcomBit : Fin 8
  /-- `FONT_N` and `FONT_I` together; `NGLYPH` is the length (R36). -/
  font : List Glyph
  /-- `TICK_HZ`, for documentation only (R320). -/
  tickHz : Nat
  /-- `TIMER_BITS`: width of the refresh timer (R43). -/
  timerBits : Nat
  /-- `PERIOD`: timer ticks between toggles (R242). -/
  period : Nat
  /-- `VCOM_INIT`: pin level REFRESH_CONFIGURE leaves (R241). -/
  vcomInit : Bool
  /-- `PIXEL_ON_IS`: the bit value of a dark pixel (R65). -/
  pixelOnIs : Bool
  /-- `CONN_INVALID`: the invalid connection handle (R193). -/
  connInvalid : Nat
  /-- The overlay regions of R190. -/
  clock : Place
  battery : Place
  connection : Place
  sampling : Place
  latitude : Place
  latitudeIndicator : Place
  longitude : Place
  longitudeIndicator : Place
  clockInv : Bool
  batteryInv : Bool
  connectionInv : Bool
  samplingInv : Bool
  fixInv : Bool
  connOnText : List Byte
  connOffText : List Byte
  sampOnText : List Byte
  sampOffText : List Byte
  deriving DecidableEq, Repr

/-- One glyph of `TESTFONT`: normal row `r` is `8*g + r`, inverted row `r` is 255 minus that (95, section 0). -/
def Config.testGlyph (g : Nat) : Glyph where
  normal := #v[BitVec.ofNat 8 (8 * g), BitVec.ofNat 8 (8 * g + 1), BitVec.ofNat 8 (8 * g + 2),
    BitVec.ofNat 8 (8 * g + 3), BitVec.ofNat 8 (8 * g + 4), BitVec.ofNat 8 (8 * g + 5),
    BitVec.ofNat 8 (8 * g + 6), BitVec.ofNat 8 (8 * g + 7)]
  inverted := #v[255 - BitVec.ofNat 8 (8 * g), 255 - BitVec.ofNat 8 (8 * g + 1),
    255 - BitVec.ofNat 8 (8 * g + 2), 255 - BitVec.ofNat 8 (8 * g + 3), 255 - BitVec.ofNat 8 (8 * g + 4),
    255 - BitVec.ofNat 8 (8 * g + 5), 255 - BitVec.ofNat 8 (8 * g + 6), 255 - BitVec.ofNat 8 (8 * g + 7)]

/-- DESIGN CHOICE, unsafe (log 4): the fixture of 95_test_vectors.md section 0 with R8's defaults, and numbers for
what stays symbolic there (TIMER_BITS 24, PERIOD 2048, CONN_INVALID 65535, dark = 1). It is "a fixture for
checking a model, not a fact about the hardware": no statement rests on it, each holds for every configuration
or under `Config.valid`. -/
def Config.fixture : Config where
  cmdClear := 0x04
  cmdWriteOneLine := 0x01
  cmdWriteMultipleLines := 0x01
  vcomBit := 1
  font := (List.range 95).map Config.testGlyph
  tickHz := 32768
  timerBits := 24
  period := 2048
  vcomInit := false
  pixelOnIs := true
  connInvalid := 65535
  clock := ⟨0, 0⟩
  battery := ⟨0, 8⟩
  connection := ⟨8, 11⟩
  sampling := ⟨8, 10⟩
  latitude := ⟨16, 0⟩
  latitudeIndicator := ⟨24, 0⟩
  longitude := ⟨32, 0⟩
  longitudeIndicator := ⟨40, 0⟩
  clockInv := false
  batteryInv := false
  connectionInv := false
  samplingInv := false
  fixInv := false
  connOnText := [0x43]
  connOffText := [0x20]
  sampOnText := [0x53]
  sampOffText := [0x20]

/-- One atomic step that some agent may take (R266), with the value the environment supplies to it. -/
inductive Move where
  /-- The main flow: takes a written command, or the next step of the operation it is in (R23). -/
  | mainFlow
  /-- `ADC_COMPLETE` with its draw (R134, R139). -/
  | adcComplete (v : Byte)
  /-- The completion handler `H_ADC` (R135). -/
  | hAdc
  /-- The timeout expiry and its handler, `TO_FIRE` (R137). -/
  | toFire
  /-- The bus engine's `BUS_BYTE` (R211). -/
  | busByte
  /-- `TIMER_TICK` (R243). -/
  | timerTick
  /-- `CMP_MATCH` (R244). -/
  | cmpMatch
  /-- The compare-match handler `H_CMP` (R246). -/
  | hCmp
  /-- The host writes `ARGW` (R281). -/
  | hostArgw (v : Word)
  /-- The host writes one byte of `PAY` (R281). -/
  | hostPay (i : Fin 32) (b : Byte)
  /-- The host writes `PAYLEN` (R281). -/
  | hostPayLen (n : Fin 33)
  /-- The host writes `CW`, which issues an operation (R97, R281). -/
  | hostCommand (cw : Word)
  deriving DecidableEq, Repr, Inhabited

/-- FREE VALUE (log 2): the environment's `n`-th choice of who steps next, and with which sample or host write.
No body: nothing constrains it (R266(d), R139, U18, U19). -/
opaque Config.freeMove : Nat → Move

end Sys2Proof
end

