-- ==== Sys2Proof/Decode.lean ====
section
/-! DEFINITION. The host command word `CMDW` (R97, R99, R100) and the wire command byte (R94, R95): decoders,
then encoders from the same tables. -/

namespace Sys2Proof

/-- Why a command word is a reserved encoding (R100(a)). -/
inductive Reserved where
  /-- `OPSEL` is not in R99. -/
  | opsel
  /-- `ZERO` (bits 31:25) is not 0. -/
  | zeroField
  /-- A field the operation does not use is not 0. -/
  | unusedField
  deriving DecidableEq, Repr

/-- `OPSEL`, bits 7:0 (R97). -/
def cwOpsel (w : Word) : Byte := w.extractLsb' 0 8

/-- Field `A`, bits 15:8 (R97). -/
def cwA (w : Word) : Byte := w.extractLsb' 8 8

/-- Field `B`, bits 23:16 (R97). -/
def cwB (w : Word) : Byte := w.extractLsb' 16 8

/-- Field `INV`, bit 24 (R97). -/
def cwInv (w : Word) : Bool := w.getLsbD 24

/-- Field `ZERO`, bits 31:25 (R97). -/
def cwZero (w : Word) : BitVec 7 := w.extractLsb' 25 7

/-- The answer for an operation that leaves the fields named by `unused` unused (R97, R100(a)). -/
def unlessUsed (unused : Bool) (i : Instr) : Except Reserved Instr :=
  if unused then .error .unusedField else .ok i

/-- The operation a command word selects (R97, R99); every other word is rejected by name (R100(a)). -/
def decode (w : Word) : Except Reserved Instr :=
  let a := cwA w
  let b := cwB w
  let inv := cwInv w
  if cwZero w ≠ 0 then .error .zeroField
  else match (cwOpsel w).toNat with
    | 0x01 => unlessUsed (a != 0 || b != 0 || inv) .sample
    | 0x10 => .ok (.writeText a b inv)
    | 0x11 => unlessUsed inv (.writeRegion a b)
    | 0x18 => unlessUsed (a != 0 || b != 0 || inv) .ovClock
    | 0x19 => unlessUsed (b != 0 || inv) (.ovBattery a)
    | 0x1A => unlessUsed (b != 0 || inv) (.ovConnection a)
    | 0x1B => unlessUsed (b != 0 || inv) (.ovSampling a)
    | 0x1C => unlessUsed (b != 0 || inv) (.ovFix a)
    | 0x20 => unlessUsed (a != 0 || b != 0 || inv) .clearScreen
    | 0x21 => unlessUsed (b != 0 || inv) (.flushLine a)
    | 0x22 => unlessUsed inv (.flushRange a b)
    | 0x24 => unlessUsed (a != 0 || b != 0 || inv) .waitIdle
    | 0x30 => unlessUsed (a != 0 || b != 0 || inv) .refreshConfigure
    | _ => .error .opsel

/-- The wire command a byte stands for under a configuration (R94, R95). Where the one-line and the multi-line
constant are equal the byte does not tell them apart (R96), and the first is answered; their effect is the same
(log 9). -/
def decodeWire (cfg : Config) (b : Byte) : Option Instr :=
  if b = cfg.cmdClear then some .cmdClear
  else if b = cfg.cmdWriteOneLine then some .cmdWriteOneLine
  else if b = cfg.cmdWriteMultipleLines then some .cmdWriteMultipleLines
  else none

/-- A command word from its fields; `ZERO` is 0 (R97). -/
def cmdWord (opsel a b : Byte) (inv : Bool) : Word :=
  0#7 ++ BitVec.ofBool inv ++ b ++ a ++ opsel

/-- The command word of a host operation (R99); none for the three wire commands, which are no host operations.
`FLUSH_ALL` has the word of `FLUSH_RANGE 0, 96` (R101, R218). -/
def encode : Instr → Option Word
  | .sample => some (cmdWord 0x01 0 0 false)
  | .writeText line col inverted => some (cmdWord 0x10 line col inverted)
  | .writeRegion line col => some (cmdWord 0x11 line col false)
  | .ovClock => some (cmdWord 0x18 0 0 false)
  | .ovBattery pct => some (cmdWord 0x19 pct 0 false)
  | .ovConnection on => some (cmdWord 0x1A on 0 false)
  | .ovSampling on => some (cmdWord 0x1B on 0 false)
  | .ovFix fix => some (cmdWord 0x1C fix 0 false)
  | .clearScreen => some (cmdWord 0x20 0 0 false)
  | .flushLine index => some (cmdWord 0x21 index 0 false)
  | .flushRange start stop => some (cmdWord 0x22 start stop false)
  | .waitIdle => some (cmdWord 0x24 0 0 false)
  | .refreshConfigure => some (cmdWord 0x30 0 0 false)
  | .flushAll => some (cmdWord 0x22 0 96 false)
  | .cmdClear | .cmdWriteOneLine | .cmdWriteMultipleLines => none

/-- The wire command byte of a wire command (R91 to R95); none for a host operation. -/
def encodeWire (cfg : Config) : Instr → Option Byte
  | .cmdClear => some cfg.cmdClear
  | .cmdWriteOneLine => some cfg.cmdWriteOneLine
  | .cmdWriteMultipleLines => some cfg.cmdWriteMultipleLines
  | _ => none

/-- What the decoders read from a word of the opcode table: a byte is a wire command byte under R95's default
values, 32 bits are a command word. -/
def decodeTableWord (nbits w : Nat) : Option Instr :=
  if nbits ≤ 8 then decodeWire Config.fixture (BitVec.ofNat 8 w)
  else (decode (BitVec.ofNat 32 w)).toOption

end Sys2Proof
end

