-- ==== Sys2Proof/Machine/Memory.lean ====
section
/-! DEFINITION. The byte spaces of R61 as canonical lists of cells: what an unlisted address reads as, reading,
writing, and the canonical form. -/

namespace Sys2Proof.Machine

/-- The writable byte spaces (R61). The font tables are read-only configuration; `DEST` is one cell, a register. -/
inductive Space where
  | fb
  | scratch
  | pay
  deriving DecidableEq, Repr, Inhabited

/-- The number of bytes of a space (R61): addresses `0 .. size - 1` exist. -/
def Space.size : Space → Nat
  | .fb => 1344
  | .scratch => 16
  | .pay => 32

/-- The flat address of `FBL[p][k]` (R60). -/
def fbAddr (p k : Nat) : Nat := 14 * p + k

/-- What an unlisted address reads as. FB: index byte `p + 1` and pad byte 0, stated by R48; every other byte is
unspecified there and reads 0 (DESIGN CHOICE, unsafe, log 6). -/
def unlisted : Space → Nat → Byte
  | .fb, a => if a % 14 = 0 then BitVec.ofNat 8 (a / 14 + 1) else 0
  | .scratch, _ => 0
  | .pay, _ => 0

/-- A byte memory: cells with strictly rising addresses, none equal to the unlisted value. -/
abbrev Memory := List Host.Cell

/-- The byte at an address (R66: every access is one byte). -/
def Memory.read (sp : Space) : Memory → Nat → Byte
  | [], a => unlisted sp a
  | (k, b) :: m, a => if a = k then b else Memory.read sp m a

/-- Put a byte before the cells of `m`, unless it is the unlisted value. -/
def Memory.place (sp : Space) (a : Nat) (b : Byte) (m : Memory) : Memory :=
  if b = unlisted sp a then m else (a, b) :: m

/-- Store one byte, keeping the canonical form. -/
def Memory.write (sp : Space) : Memory → Nat → Byte → Memory
  | [], a, b => Memory.place sp a b []
  | (k, c) :: m, a, b =>
    if a < k then Memory.place sp a b ((k, c) :: m)
    else if a = k then Memory.place sp a b m
    else (k, c) :: Memory.write sp m a b

/-- Store the cells one after another. -/
def Memory.writeAll (sp : Space) (m : Memory) (cells : List Host.Cell) : Memory :=
  cells.foldl (fun m c => Memory.write sp m c.1 c.2) m

/-- Every address of the list is at least `lo`, rising, inside the space, and its byte is not the unlisted one. -/
def Memory.wfFrom (sp : Space) (lo : Nat) : Memory → Bool
  | [] => true
  | (k, b) :: m => lo ≤ k && k < sp.size && b != unlisted sp k && Memory.wfFrom sp (k + 1) m

/-- The canonical form. -/
def Memory.wf (sp : Space) (m : Memory) : Bool := Memory.wfFrom sp 0 m

/-- Bytes laid out from an address on, in ascending order (R63). -/
def cellsFrom (a : Nat) : List Byte → List Host.Cell
  | [] => []
  | b :: bs => (a, b) :: cellsFrom (a + 1) bs

/-- The byte a list of stores leaves at an address, if one of them names it; the last one counts. -/
def lastStore (cells : List Host.Cell) (a : Nat) : Option Byte :=
  (cells.reverse.find? fun c => c.1 == a).map Prod.snd

end Sys2Proof.Machine
end

