-- ==== Sys2Proof/Machine/State.lean ====
section
/-! DEFINITION. The machine's state as plain data, the reasons a step can stop, and the state after power-up. -/

namespace Sys2Proof.Machine

/-- Where SAMPLE stands: the step it takes next (R131 to R133). -/
inductive SampleStep where
  /-- step 2: enable the converter. -/
  | enable
  /-- step 3: set `busy` and arm the timeout. -/
  | arm
  /-- step 4: start the conversion. -/
  | start
  /-- step 5: the wait. -/
  | wait
  /-- step 6: the exit. -/
  | leave
  deriving DecidableEq, Repr

/-- Where FLUSH_RANGE stands: the step it takes next (R217). -/
inductive RangeStep where
  /-- step 2: wait for the command segment. -/
  | wait
  /-- step 3: send the line records. -/
  | send
  deriving DecidableEq, Repr

/-- `MF.op` and `MF.step` (R23) as one position. Operations of one atomic step are never found midway; the first
step of an operation is taken from `idle` (log 1). -/
inductive MainFlow where
  | idle
  | sample (next : SampleStep)
  | flushRange (next : RangeStep)
  | waitIdle
  deriving DecidableEq, Repr

/-- `ADC.CONFIG`, the four fields of R28 with the codes of R102. -/
structure AdcConfig where
  res : BitVec 2
  inpsel : BitVec 3
  refsel : BitVec 2
  psel : BitVec 8
  deriving DecidableEq, Repr

/-- `BUS.src` (R39). -/
inductive BusSource where
  | fb
  | scratch
  deriving DecidableEq, Repr

/-- `BUS.mode`: whether `CS` stays asserted after the segment (R214). -/
inductive CsMode where
  | manual
  | auto
  deriving DecidableEq, Repr

/-- `GPIOTASK.MODE` (R43). -/
inductive GpioMode where
  | off
  | toggle
  deriving DecidableEq, Repr

/-- An event of the wire log (R44). -/
inductive WireEvent where
  | csAssert
  | byte (b : Byte)
  | csRelease
  deriving DecidableEq, Repr

/-- Why the machine stops. The hardware has no trap; this is the model's own and no run from reset meets it. -/
inductive Fault where
  /-- The bus engine would read an address its space does not have (raised by `busByte`, log 15). Safe. -/
  | noSuchAddress (sp : Space) (a : Nat)
  deriving DecidableEq, Repr

/-- Why a request has no meaning (R263). Each reason is safe: it makes claims unprovable, never false. -/
inductive Refusal where
  /-- An operation without a meaning in this model: raised by refused arms of `exec` only. Safe. -/
  | notModelled (mnemonic : String)
  /-- `ReservedEncoding` (R100(a)): raised by the main flow when it takes a command word that is no operation. Safe. -/
  | reservedEncoding
  /-- `OperandRange` (R263): raised by an operation whose stated operand range fails. Safe. -/
  | operandRange
  /-- `BusBusy` (R210, R215 to R217): raised by a transfer issued while a segment is active. Safe. -/
  | busBusy
  /-- `SampleReentry` (R130): raised by SAMPLE with `busy = 1`. Safe. -/
  | sampleReentry
  /-- `AlreadyConfigured` (R241): raised by a second REFRESH_CONFIGURE. Safe. -/
  | alreadyConfigured
  /-- The model's own (R100(b), log 14): raised by an operation executed while the main flow is in another. The
  host has no such move. Safe. -/
  | mainFlowBusy
  /-- The model's own (log 9): raised by a wire command where the bus engine has no such byte to send as the first
  of a transaction. Safe. -/
  | commandNotStaged
  deriving DecidableEq, Repr

/-- The machine (R20 to R48). -/
structure State where
  /-- The board's parameters: no state, carried along and written by nothing (R46, log 3). -/
  cfg : Config
  /-- `CW` (R21). -/
  cw : Word
  /-- The host has written `CW` and the main flow has not taken it (R97; the model's own, log 1). -/
  cwWritten : Bool
  /-- `ARGW` (R21). -/
  argw : Word
  /-- `PAY[0..31]` (R21). -/
  pay : Memory
  /-- `PAYLEN`, 0..32 (R21). -/
  payLen : Fin 33
  /-- `RES.STATUS` (R103): 0 `OK`, 1 `TIMED_OUT`. -/
  resStatus : Byte
  /-- `RES.VALUE` (R103). -/
  resValue : Byte
  /-- `MF.op` and `MF.step` (R23). -/
  mf : MainFlow
  /-- `busy` (R24). -/
  busy : Bool
  /-- `timed_out` (R25). -/
  timedOut : Bool
  /-- `ADC.ENABLE` (R27). -/
  adcEnable : Bool
  /-- `ADC.CONFIG` (R28). -/
  adcConfig : AdcConfig
  /-- `ADC.RESULT` (R29). -/
  adcResult : Byte
  /-- `ADC.conv` (R30). -/
  adcConv : Bool
  /-- `IRQ.adc` (R31). -/
  irqAdc : Bool
  /-- `TO.armed` (R32). -/
  toArmed : Bool
  /-- `TO.ticks` (R32). -/
  toTicks : Word
  /-- `DEST` (R33). -/
  dest : Byte
  /-- `FB[0..1343]` (R34). -/
  fb : Memory
  /-- `SCRATCH[0..15]` (R35). -/
  scratch : Memory
  /-- `BATT_PREV` (R37): none is `NONE`. -/
  battPrev : Option Nat
  /-- `BUS.active` (R38). -/
  busActive : Bool
  /-- `BUS.src` (R39). -/
  busSrc : BusSource
  /-- `BUS.ptr` (R39). -/
  busPtr : Nat
  /-- `BUS.rem` (R39). -/
  busRem : Nat
  /-- `BUS.mode` (R39). -/
  busMode : CsMode
  /-- `CS`, true when asserted (R40). -/
  cs : Bool
  /-- `REF.configured` (R41). -/
  refConfigured : Bool
  /-- `VCOM_PIN` (R42). -/
  vcomPin : Bool
  /-- `TIMER.CNT` (R43). -/
  timerCnt : Nat
  /-- `TIMER.CC` (R43). -/
  timerCc : Nat
  /-- `TIMER.INTEN_CMP` (R43). -/
  timerIntenCmp : Bool
  /-- `FABRIC.CH_EN` (R43). -/
  fabricChEn : Bool
  /-- `GPIOTASK.MODE` (R43). -/
  gpioMode : GpioMode
  /-- `IRQ.cmp` (R43). -/
  irqCmp : Bool
  /-- `WIRE`, ghost (R44). -/
  wire : List WireEvent
  /-- `CANCELS`, ghost (R44). -/
  cancels : Nat
  /-- `CANCEL_CALLS`, ghost (R44). -/
  cancelCalls : Nat
  /-- `TOGGLES`, ghost (R44). -/
  toggles : Nat
  /-- The environment's next moves, laid down beforehand (the model's own, log 2). -/
  agenda : List Move
  /-- How many moves have been drawn from `Config.freeMove` (the model's own, log 2). -/
  draws : Nat
  deriving DecidableEq, Repr

/-- What a step answers. -/
abbrev Result := Host.Outcome State Fault Refusal

/-- The values R48 marks unspecified at power-up; the data bytes of FB and the bytes of SCRATCH are given as stores. -/
structure PowerUp where
  cw : Word
  argw : Word
  pay : List Byte
  payLen : Fin 33
  resValue : Byte
  adcConfig : AdcConfig
  adcResult : Byte
  toTicks : Word
  dest : Byte
  fbData : List Host.Cell
  scratch : List Byte
  busSrc : BusSource
  busPtr : Nat
  busRem : Nat
  busMode : CsMode
  vcomPin : Bool
  timerCnt : Nat
  timerCc : Nat
  deriving DecidableEq, Repr

/-- An address of a bitmap byte of FB: a byte-column 1 to 12 of a line (R60, R170). -/
def isBitmapAddr (a : Nat) : Bool :=
  a < 1344 && a % 14 != 0 && a % 14 != 13

/-- The state after power-up (R48, R300 to R302), for every value of what the spec leaves unspecified there.
Ghost state starts empty; no environment move is laid down. -/
def State.powerUp (cfg : Config) (u : PowerUp) : State where
  cfg := cfg
  cw := u.cw
  cwWritten := false
  argw := u.argw
  pay := Memory.writeAll .pay [] (cellsFrom 0 (u.pay.take 32))
  payLen := u.payLen
  resStatus := 0
  resValue := u.resValue
  mf := .idle
  busy := false
  timedOut := false
  adcEnable := false
  adcConfig := u.adcConfig
  adcResult := u.adcResult
  adcConv := false
  irqAdc := false
  toArmed := false
  toTicks := u.toTicks
  dest := u.dest
  fb := Memory.writeAll .fb [] (u.fbData.filter fun c => isBitmapAddr c.1)
  scratch := Memory.writeAll .scratch [] (cellsFrom 0 (u.scratch.take 16))
  battPrev := none
  busActive := false
  busSrc := u.busSrc
  busPtr := u.busPtr
  busRem := u.busRem
  busMode := u.busMode
  cs := false
  refConfigured := false
  vcomPin := u.vcomPin
  timerCnt := u.timerCnt % 2 ^ cfg.timerBits
  timerCc := u.timerCc % 2 ^ cfg.timerBits
  timerIntenCmp := false
  fabricChEn := false
  gpioMode := .off
  irqCmp := false
  wire := []
  cancels := 0
  cancelCalls := 0
  toggles := 0
  agenda := []
  draws := 0

/-- DESIGN CHOICE, unsafe (logs 5 and 6): one value for everything R48 leaves unspecified, zero throughout
(`BUS.src` SCRATCH, `BUS.mode` Auto). -/
def PowerUp.zero : PowerUp where
  cw := 0
  argw := 0
  pay := []
  payLen := 0
  resValue := 0
  adcConfig := ⟨0, 0, 0, 0⟩
  adcResult := 0
  toTicks := 0
  dest := 0
  fbData := []
  scratch := []
  busSrc := .scratch
  busPtr := 0
  busRem := 0
  busMode := .auto
  vcomPin := false
  timerCnt := 0
  timerCc := 0

/-- The machine right after reset (R48, R300), on the board of log 4. -/
def State.reset : State := State.powerUp Config.fixture PowerUp.zero

end Sys2Proof.Machine
end

