-- ==== Sys2Proof/Machine/Ops.lean ====
section
/-! DEFINITION. The named operations every meaning is written over: reads and writes of the byte spaces, ends of an
operation, the wire log, the transfer primitive and the bus engine, the timeout primitive, and the taking of an
interrupt. -/

namespace Sys2Proof.Machine

/-- The space a segment is read from. -/
def BusSource.space : BusSource → Space
  | .fb => .fb
  | .scratch => .scratch

/-- Run the next part on the state the first part leaves; a stop ends the operation with no state (R263). -/
def andThen (r : Result) (k : State → Result) : Result :=
  match r with
  | .next s => k s
  | .fault f => .fault f
  | .refused f => .refused f

/-- The list of a space (R61). -/
def State.mem (s : State) : Space → Memory
  | .fb => s.fb
  | .scratch => s.scratch
  | .pay => s.pay

/-- `MemRead(space, a, 1)` (R10). -/
def State.load (s : State) (sp : Space) (a : Nat) : Byte :=
  Memory.read sp (s.mem sp) a

/-- `MemRead(space, a, n)`: bytes in ascending address order (R10). -/
def State.loadBytes (s : State) (sp : Space) (a n : Nat) : List Byte :=
  (List.range n).map fun k => s.load sp (a + k)

/-- `FBL[p][k]` (R60). -/
def State.fbByte (s : State) (p k : Nat) : Byte :=
  s.load .fb (fbAddr p k)

/-- `PAY[0 .. PAYLEN-1]` (R98, R104). -/
def State.payload (s : State) : List Byte :=
  s.loadBytes .pay 0 s.payLen.val

/-- Stores into FB, one after another (R175: each replaces its byte). -/
def State.storeFb (s : State) (cells : List Host.Cell) : State :=
  { s with fb := Memory.writeAll .fb s.fb cells }

/-- `SCRATCH[0 ..] <- bytes` (R35). -/
def State.stage (s : State) (bytes : List Byte) : State :=
  { s with scratch := Memory.writeAll .scratch s.scratch (cellsFrom 0 bytes) }

/-- The end of an operation that reports `OK` without a value: `RES.STATUS <- 0`, `MF.op <- IDLE` (R103). -/
def State.finish (s : State) : State :=
  { s with resStatus := 0, mf := .idle }

/-- `emit` (R10, R44): events appended to the wire log. -/
def State.emit (s : State) (events : List WireEvent) : State :=
  { s with wire := s.wire ++ events }

/-- An operation begins only from `MF.op = IDLE` (R23, R100(b)). -/
def whenIdle (s : State) (op : Result) : Result :=
  match s.mf with
  | .idle => op
  | _ => .refused .mainFlowBusy

/-- `CS` is asserted at the start of a segment if it is not already (R210, R214). -/
def State.assertCs (s : State) : State :=
  if s.cs then s else { s.emit [.csAssert] with cs := true }

/-- `transfer_async(space, addr, n, mode)` (R210). -/
def transferAsync (src : BusSource) (addr n : Nat) (mode : CsMode) (s : State) : Result :=
  if n = 0 then .refused .operandRange
  else if s.busActive then .refused .busBusy
  else .next { s.assertCs with
    busSrc := src, busPtr := addr, busRem := n, busMode := mode, busActive := true }

/-- What the bus engine does when the last byte of a segment is out: an `Auto` segment releases `CS` (R211, R214). -/
def State.endSegment (s : State) : State :=
  match s.busMode with
  | .auto => { s.emit [.csRelease] with busActive := false, cs := false }
  | .manual => { s with busActive := false }

/-- `BUS_BYTE` (R211): the byte is read from memory now. -/
def busByte (s : State) : Result :=
  if s.busPtr < s.busSrc.space.size then
    let t := { s.emit [.byte (s.load s.busSrc.space s.busPtr)] with
      busPtr := s.busPtr + 1, busRem := s.busRem - 1 }
    .next (if t.busRem = 0 then t.endSegment else t)
  else .fault (.noSuchAddress s.busSrc.space s.busPtr)

/-- `arm_timeout(t)` (R136). -/
def State.armTimeout (s : State) (ticks : Word) : State :=
  { s with toArmed := true, toTicks := ticks }

/-- `cancel_timeout()` (R136): idempotent, but for the ghost call counter. -/
def State.cancelTimeout (s : State) : State :=
  { s with
    cancelCalls := s.cancelCalls + 1
    cancels := if s.toArmed then s.cancels + 1 else s.cancels
    toArmed := false }

/-- The interrupt sources (R264). -/
inductive Irq where
  | adcCompletion
  | timeoutExpiry
  | compareMatch
  deriving DecidableEq, Repr

/-- The interrupt is deliverable: its pending bit is 1, or, for the fused timeout, a registration is armed (R264,
R266(a)). No interrupt is ever masked (R265). -/
def irqPending (s : State) : Irq → Bool
  | .adcCompletion => s.irqAdc
  | .timeoutExpiry => s.toArmed
  | .compareMatch => s.irqCmp

/-- Taking an interrupt: entry saves nothing and changes no mode, the handler's whole effect is one atomic step, and
its end is the return; `MF.op` and `MF.step` stay, so the main flow goes on where it stood (R264, R270 to R272).
`H_ADC` is R135, `TO_FIRE` R137, `H_CMP` R246. -/
def takeInterrupt (s : State) : Irq → State
  | .adcCompletion =>
    { s.cancelTimeout with dest := s.adcResult, busy := false, irqAdc := false }
  | .timeoutExpiry => { s with toArmed := false, timedOut := true }
  | .compareMatch =>
    { s with timerCc := (s.timerCc + s.cfg.period) % 2 ^ s.cfg.timerBits, irqCmp := false }

/-- The main flow takes steps only while no interrupt is pending (R266(b)). -/
def State.mainFlowFree (s : State) : Bool :=
  !s.irqAdc && !s.irqCmp

end Sys2Proof.Machine
end

