-- ==== Sys2Proof/Machine/Flags.lean ====
section
/-! DEFINITION. The sampler's configuration and its two flags: what its wait tests, its exit, and the phase they
encode. -/

namespace Sys2Proof.Machine

/-- The only values the block writes: 8-bit resolution (0), supply divided by three (6), band-gap reference (0),
no external pin (0) (R28, R102, R131). -/
def AdcConfig.sampleSetup : AdcConfig := ⟨0, 6, 0, 0⟩

/-- The guard of SAMPLE step 5: `busy = 0 or timed_out = 1` (R132). -/
def waitOver (s : State) : Bool :=
  !s.busy || s.timedOut

/-- What both exits do: both flags cleared, the converter off, a conversion in flight abandoned (R133, R138, R140). -/
def State.powerDownSampler (s : State) : State :=
  { s with busy := false, timedOut := false, adcEnable := false, adcConv := false }

/-- The timeout path of SAMPLE step 6 (R133): `RES.STATUS <- 1`, `RES.VALUE` and `DEST` stay (R103, R261). -/
def State.leaveTimedOut (s : State) : State :=
  { s.cancelTimeout.powerDownSampler with resStatus := 1, mf := .idle }

/-- The completion path of SAMPLE step 6 (R133): `OK` with the byte in `DEST` (R103). -/
def State.leaveWithSample (s : State) : State :=
  { s.powerDownSampler with resStatus := 0, resValue := s.dest, mf := .idle }

/-- SAMPLE step 6: `timed_out` is tested first (R133, the spec's own decision D5). -/
def State.leaveSample (s : State) : State :=
  if s.timedOut then s.leaveTimedOut else s.leaveWithSample

/-- The sampler's phase (R26). -/
inductive Phase where
  | idle
  | converting
  | completed
  | timedOut
  deriving DecidableEq, Repr

/-- SAMPLE has taken its step 3 (R26). -/
def MainFlow.pastArming : MainFlow → Bool
  | .sample .start | .sample .wait | .sample .leave => true
  | _ => false

/-- The phase, derived from the position and the flags (R26). -/
def State.phase (s : State) : Phase :=
  if s.mf.pastArming then
    if s.timedOut then .timedOut else if s.busy then .converting else .completed
  else .idle

/-- The core sleeps in SAMPLE's wait-for-event (R132, R280). -/
def State.coreAsleep (s : State) : Bool :=
  s.mf = .sample .wait && !waitOver s && s.mainFlowFree

end Sys2Proof.Machine
end

