-- ==== Sys2Proof/Machine/Agents.lean ====
section
/-! DEFINITION. Who may step when (R266), what the autonomous agents and the host do, and the environment's choice
of the next move (R46). -/

namespace Sys2Proof.Machine

/-- `ADC_COMPLETE` with the draw `v` (R134). -/
def adcComplete (v : Byte) (s : State) : State :=
  { s with adcResult := v, adcConv := false, irqAdc := true }

/-- `TIMER_TICK` (R243). -/
def timerTick (s : State) : State :=
  { s with timerCnt := (s.timerCnt + 1) % 2 ^ s.cfg.timerBits }

/-- The compare event reaches the pin: the channel is on and the pin's task toggles (R244). -/
def toggleLinked (s : State) : Bool :=
  s.fabricChEn && s.gpioMode = .toggle

/-- `CMP_MATCH`: the toggle in hardware, and the interrupt if it is enabled (R244). -/
def cmpMatch (s : State) : State :=
  { s with
    vcomPin := if toggleLinked s then !s.vcomPin else s.vcomPin
    toggles := if toggleLinked s then s.toggles + 1 else s.toggles
    irqCmp := s.timerIntenCmp || s.irqCmp }

/-- `CMP_MATCH` is enabled under either guard of R244: the timed one, counter equal to compare value, and the
timeless one, chain configured and no compare interrupt pending. The guard is a level: while the counter stands at the
compare value the event may happen again, with its interrupt still pending and no tick between, since R244 does not say
that one coincidence gives one event (DESIGN CHOICE, safe, log 10). -/
def cmpMatchEnabled (s : State) : Bool :=
  s.timerCnt == s.timerCc || (s.refConfigured && !s.irqCmp)

/-- The guard of the main flow's next step: a wait that is over, a written command when idle (R132, R213, R217). -/
def mainFlowGuard (s : State) : Bool :=
  match s.mf with
  | .idle => s.cwWritten
  | .sample .wait => waitOver s
  | .sample _ => true
  | .flushRange .wait => !s.busActive
  | .flushRange .send => true
  | .waitIdle => !s.busActive

/-- The main flow has a step: nothing pending and its guard true (R266(b)); a command that meets a busy bus at
WAIT_IDLE is still taken, it then blocks (R219). -/
def mainFlowEnabled (s : State) : Bool :=
  s.mainFlowFree && mainFlowGuard s

/-- The host may write the command port: main flow idle, no command waiting to be taken, and, since the host runs on
the main flow, no interrupt pending (R266(b), R274, R281). -/
def hostEnabled (s : State) : Bool :=
  s.mainFlowFree && s.mf = .idle && !s.cwWritten

/-- The move is a step its agent has in this state (R266). -/
def enabled (s : State) : Move → Bool
  | .mainFlow => mainFlowEnabled s
  | .adcComplete _ => s.adcEnable && s.adcConv
  | .hAdc => irqPending s .adcCompletion
  | .toFire => irqPending s .timeoutExpiry
  | .hCmp => irqPending s .compareMatch
  | .busByte => s.busActive
  | .timerTick => true
  | .cmpMatch => cmpMatchEnabled s
  | .hostArgw _ => hostEnabled s
  | .hostPay _ _ => hostEnabled s
  | .hostPayLen _ => hostEnabled s
  | .hostCommand _ => hostEnabled s

/-- The host's write of `CW` issues an operation (R97). -/
def hostCommand (cw : Word) (s : State) : State :=
  { s with cw := cw, cwWritten := true }

/-- What an enabled move other than the main flow's does. -/
def agentStep (s : State) : Move → Result
  | .mainFlow => .next s
  | .adcComplete v => .next (adcComplete v s)
  | .hAdc => .next (takeInterrupt s .adcCompletion)
  | .toFire => .next (takeInterrupt s .timeoutExpiry)
  | .hCmp => .next (takeInterrupt s .compareMatch)
  | .busByte => busByte s
  | .timerTick => .next (timerTick s)
  | .cmpMatch => .next (cmpMatch s)
  | .hostArgw v => .next { s with argw := v }
  | .hostPay i b => .next { s with pay := Memory.write .pay s.pay i.val b }
  | .hostPayLen n => .next { s with payLen := n }
  | .hostCommand cw => .next (hostCommand cw s)

/-- The main flow takes the written command, once (log 1). -/
def State.takeCommand (s : State) : State :=
  { s with cwWritten := false }

/-- The environment's next choice: laid down in the agenda, or else drawn (log 2). -/
def nextMove (s : State) : Move :=
  match s.agenda with
  | m :: _ => m
  | [] => Config.freeMove s.draws

/-- The choice is used up. -/
def State.consumeMove (s : State) : State :=
  match s.agenda with
  | _ :: rest => { s with agenda := rest }
  | [] => { s with draws := s.draws + 1 }

end Sys2Proof.Machine
end

