-- ==== Sys2Proof/Machine/Board.lean ====
section
/-! DEFINITION. What is read off a board's parameters: the two font spaces, glyphs, whether a region fits, and the
constraints of R8, R94 and R190. -/

namespace Sys2Proof

/-- The two read-only spaces `FONT_N` and `FONT_I`; with `Machine.Space` they are the spaces `MemRead` names (R10,
R61). Nothing writes them: they are parameters (R36). -/
inductive FontSpace where
  | fontN
  | fontI
  deriving DecidableEq, Repr

/-- The font space the `inverted` flag selects (R171). -/
def fontSpace (inverted : Bool) : FontSpace :=
  if inverted then .fontI else .fontN

/-- The eight bytes a glyph has in a font space (R36). -/
def Glyph.table (g : Glyph) : FontSpace → Vector Byte 8
  | .fontN => g.normal
  | .fontI => g.inverted

/-- The row bytes of the table the `inverted` flag selects (R171). -/
def Glyph.rows (g : Glyph) (inverted : Bool) : Vector Byte 8 := g.table (fontSpace inverted)

/-- The number of bytes of each font space: `NGLYPH * 8` (R61). -/
def Config.fontSize (cfg : Config) : Nat := 8 * cfg.font.length

/-- The byte of a font space at an address: glyph `g`, row `r` stands at `8*g + r`; none from the size on (R61). -/
def Config.fontByte (cfg : Config) (sp : FontSpace) (a : Nat) : Option Byte :=
  (cfg.font[a / 8]?).map fun g => (g.table sp)[a % 8]'(Nat.mod_lt a (by decide))

/-- `MemRead(FONT_N or FONT_I, a, n)`: the bytes in ascending address order (R10), none if one does not exist. -/
def Config.fontBytes (cfg : Config) (sp : FontSpace) (a : Nat) : Nat → Option (List Byte)
  | 0 => some []
  | n + 1 =>
    match cfg.fontByte sp a, cfg.fontBytes sp (a + 1) n with
    | some b, some bs => some (b :: bs)
    | _, _ => none

/-- The glyph of a text byte: index `c - 32` into the tables, none below 32 or past the tables (R171, R174). -/
def Config.glyphOf (cfg : Config) (c : Byte) : Option Glyph :=
  if 32 ≤ c.toNat then cfg.font[c.toNat - 32]? else none

/-- What WRITE_TEXT reads for a text byte: the eight bytes of glyph `c - 32`, from `8 * (c - 32)` on, of the font space
the `inverted` flag selects (R61, R171); none for a byte without a glyph (R174). -/
def Config.glyphBytes (cfg : Config) (inverted : Bool) (c : Byte) : Option (List Byte) :=
  if 32 ≤ c.toNat then cfg.fontBytes (fontSpace inverted) (8 * (c.toNat - 32)) 8 else none

/-- Every byte of the text has a glyph (R171). -/
def Config.hasGlyphs (cfg : Config) (text : List Byte) : Bool :=
  text.all fun c => (cfg.glyphOf c).isSome

/-- A region of `width` character cells lies inside the screen (R190). -/
def Place.fits (p : Place) (width : Nat) : Bool :=
  p.line + 7 ≤ 95 && p.col + width ≤ 12

/-- The two texts of an indicator have one length, 1 to 12, glyphs for every byte, and fit (R190). -/
def Config.indicatorFits (cfg : Config) (p : Place) (onText offText : List Byte) : Bool :=
  1 ≤ onText.length && onText.length == offText.length && p.fits onText.length
    && cfg.hasGlyphs onText && cfg.hasGlyphs offText

/-- The constraints a configuration must meet (R8, R94, R190). -/
def Config.valid (cfg : Config) : Bool :=
  !cfg.cmdClear.getLsbD cfg.vcomBit && !cfg.cmdWriteOneLine.getLsbD cfg.vcomBit
    && !cfg.cmdWriteMultipleLines.getLsbD cfg.vcomBit
    && 1 ≤ cfg.font.length && cfg.font.length ≤ 224
    && 1 ≤ cfg.tickHz && 1 ≤ cfg.period
    && cfg.clock.fits 8 && cfg.battery.fits 4
    && cfg.indicatorFits cfg.connection cfg.connOnText cfg.connOffText
    && cfg.indicatorFits cfg.sampling cfg.sampOnText cfg.sampOffText
    && cfg.latitude.fits 12 && cfg.latitudeIndicator.fits 1
    && cfg.longitude.fits 12 && cfg.longitudeIndicator.fits 1

/-- The operand a caller of OV_CONNECTION computes: the handle is not the invalid one (R193). -/
def Config.connected (cfg : Config) (handle : Nat) : Bool :=
  handle != cfg.connInvalid

end Sys2Proof
end

