-- ==== Sys2Proof/Machine/Operands.lean ====
section
/-! DEFINITION. The operand forms: text bytes turned into FB stores, and the texts the overlays build. -/

namespace Sys2Proof.Machine

/-- The stores of one glyph: row `r` at `FBL[line + r][k]` (R171). -/
def columnCells (line k : Nat) : List Byte → List Host.Cell
  | [] => []
  | b :: bs => (fbAddr line k, b) :: columnCells (line + 1) k bs

/-- The stores of a text from byte-column `k` on: the `i`-th character stands in byte-column `k + i`, whatever its
glyph index (R171, 90_conflicts.md C1). None if a byte has no glyph (R174). -/
def textCells (cfg : Config) (inverted : Bool) (line k : Nat) : List Byte → Option (List Host.Cell)
  | [] => some []
  | c :: cs =>
    match cfg.glyphBytes inverted c, textCells cfg inverted line (k + 1) cs with
    | some rows, some rest => some (columnCells line k rows ++ rest)
    | _, _ => none

/-- The bounds of WRITE_TEXT (R171, R174). -/
def textFits (n line col : Nat) : Bool :=
  1 ≤ n && n ≤ 12 && line + 7 ≤ 95 && col + n ≤ 12

/-- The body of WRITE_TEXT on FB (R171); the overlays hand their texts to it. The `+ 1` is the renderer's (R170). -/
def renderText (text : List Byte) (line col : Nat) (inverted : Bool) (s : State) : Result :=
  if textFits text.length line col then
    match textCells s.cfg inverted line (1 + col) text with
    | some cells => .next (s.storeFb cells)
    | none => .refused .operandRange
  else .refused .operandRange

/-- `renderText` at a fixed place (R190). -/
def renderAt (text : List Byte) (p : Place) (inverted : Bool) (s : State) : Result :=
  renderText text p.line p.col inverted s

/-- The bounds of WRITE_REGION (R173, R174). -/
def regionFits (n line col : Nat) : Bool :=
  1 ≤ n && n ≤ 12 && line ≤ 95 && col + n ≤ 12

/-- The stores of WRITE_REGION: consecutive byte-columns of one line (R173). -/
def regionCells (line col : Nat) (bytes : List Byte) : List Host.Cell :=
  cellsFrom (fbAddr line (1 + col)) bytes

/-- An ASCII digit. -/
def digit (x : Nat) : Byte := BitVec.ofNat 8 (0x30 + x)

/-- Two ASCII digits, leading `'0'` (R191). -/
def twoDigits (x : Nat) : List Byte := [digit (x / 10), digit (x % 10)]

/-- `HH:MM:SS` (R191). -/
def clockText (ts : Nat) : List Byte :=
  twoDigits (ts / 3600) ++ [0x3A] ++ twoDigits (ts % 3600 / 60) ++ [0x3A] ++ twoDigits (ts % 60)

/-- The decimal digits of a percentage, no leading zeros (R192). -/
def percentDigits (pct : Nat) : List Byte :=
  if pct < 10 then [digit pct]
  else if pct < 100 then [digit (pct / 10), digit (pct % 10)]
  else [digit (pct / 100), digit (pct % 100 / 10), digit (pct % 10)]

/-- The right-justified percentage and `%`, four bytes (R192). -/
def batteryText (pct : Nat) : List Byte :=
  List.replicate (3 - (percentDigits pct).length) 0x20 ++ percentDigits pct ++ [0x25]

/-- One coordinate of a fix record: degree 3, minute 2, fraction 4, hemisphere 1 (R104). -/
structure Coordinate where
  deg : List Byte
  min : List Byte
  frac : List Byte
  hemi : List Byte
  deriving DecidableEq, Repr

/-- The coordinate that starts at byte `o` of the payload (R104). -/
def coordinateAt (payload : List Byte) (o : Nat) : Coordinate where
  deg := (payload.drop o).take 3
  min := (payload.drop (o + 3)).take 2
  frac := (payload.drop (o + 5)).take 4
  hemi := (payload.drop (o + 9)).take 1

/-- `deg * min . frac '`, copied verbatim (R195). -/
def Coordinate.text (c : Coordinate) : List Byte :=
  c.deg ++ [0x2A] ++ c.min ++ [0x2E] ++ c.frac ++ [0x27]

/-- The placeholder `XXX*XX.XXXX'` (R195). -/
def placeholderText : List Byte :=
  [0x58, 0x58, 0x58, 0x2A, 0x58, 0x58, 0x2E, 0x58, 0x58, 0x58, 0x58, 0x27]

/-- The placeholder indicator `X` (R195). -/
def placeholderIndicator : List Byte := [0x58]

/-- The 16 bytes of a single-line transaction (R92, R216): command, `FBL[i][0..12]`, two pads. -/
def singleLineBytes (s : State) (i : Nat) : List Byte :=
  s.cfg.cmdWriteOneLine :: (s.loadBytes .fb (fbAddr i 0) 13 ++ [0x00, 0x00])

/-- The 2 bytes of a clear-screen transaction (R91, R215). -/
def clearBytes (s : State) : List Byte := [s.cfg.cmdClear, 0x00]

end Sys2Proof.Machine
end

