-- ==== Sys2Proof/Machine/Overlays.lean ====
section
/-! DEFINITION. The five overlay writers (42_overlays.md). Each hands its text to WRITE_TEXT's body (R196). -/

namespace Sys2Proof.Machine

/-- OV_CLOCK (R191). -/
def execOvClock (s : State) : Result :=
  whenIdle s <|
    if s.argw.toNat < 86400 then
      andThen (renderAt (clockText s.argw.toNat) s.cfg.clock s.cfg.clockInv s) fun t => .next t.finish
    else .refused .operandRange

/-- OV_BATTERY (R192): nothing is drawn when the cache holds the percentage. -/
def execOvBattery (pct : Byte) (s : State) : Result :=
  whenIdle s <|
    if pct.toNat ≤ 100 then
      if s.battPrev = some pct.toNat then .next s.finish
      else
        andThen (renderAt (batteryText pct.toNat) s.cfg.battery s.cfg.batteryInv s) fun t =>
          .next { t.finish with battPrev := some pct.toNat }
    else .refused .operandRange

/-- The body OV_CONNECTION and OV_SAMPLING share: one of two texts at a fixed place, no cache (R193, R194). -/
def drawIndicator (on : Byte) (p : Place) (inverted : Bool) (onText offText : List Byte) (s : State) : Result :=
  if on.toNat ≤ 1 then
    andThen (renderAt (if on = 1 then onText else offText) p inverted s) fun t => .next t.finish
  else .refused .operandRange

/-- OV_CONNECTION (R193). -/
def execOvConnection (on : Byte) (s : State) : Result :=
  whenIdle s <|
    drawIndicator on s.cfg.connection s.cfg.connectionInv s.cfg.connOnText s.cfg.connOffText s

/-- OV_SAMPLING (R194). -/
def execOvSampling (on : Byte) (s : State) : Result :=
  whenIdle s <|
    drawIndicator on s.cfg.sampling s.cfg.samplingInv s.cfg.sampOnText s.cfg.sampOffText s

/-- The four texts of OV_FIX in the order they are drawn: latitude, its indicator, longitude, its indicator (R195). -/
def drawFix (latText latInd lonText lonInd : List Byte) (s : State) : Result :=
  andThen (renderAt latText s.cfg.latitude s.cfg.fixInv s) fun s =>
  andThen (renderAt latInd s.cfg.latitudeIndicator s.cfg.fixInv s) fun s =>
  andThen (renderAt lonText s.cfg.longitude s.cfg.fixInv s) fun s =>
  andThen (renderAt lonInd s.cfg.longitudeIndicator s.cfg.fixInv s) fun s =>
  .next s.finish

/-- OV_FIX (R195); the payload layout is R104's. The format is the spec's own decision D22 (log 18). -/
def execOvFix (fix : Byte) (s : State) : Result :=
  whenIdle s <|
    if fix = 0 then
      drawFix placeholderText placeholderIndicator placeholderText placeholderIndicator s
    else if fix = 1 ∧ s.payLen.val = 20 then
      let lat := coordinateAt s.payload 0
      let lon := coordinateAt s.payload 10
      drawFix lat.text lat.hemi lon.text lon.hemi s
    else .refused .operandRange

end Sys2Proof.Machine
end

