-- ==== Sys2Proof/Machine/Refresh.lean ====
section
/-! DEFINITION. REFRESH_CONFIGURE (44_refresh.md). -/

namespace Sys2Proof.Machine

/-- REFRESH_CONFIGURE (R241). -/
def execRefreshConfigure (s : State) : Result :=
  whenIdle s <|
    if s.refConfigured then .refused .alreadyConfigured
    else .next { s.finish with
      vcomPin := s.cfg.vcomInit
      gpioMode := .toggle
      fabricChEn := true
      timerIntenCmp := true
      timerCc := (s.timerCnt + s.cfg.period) % 2 ^ s.cfg.timerBits
      refConfigured := true
      toggles := 0 }

end Sys2Proof.Machine
end

