-- ==== Sys2Proof/Machine/Renderer.lean ====
section
/-! DEFINITION. WRITE_TEXT and WRITE_REGION (41_framebuffer_renderer.md). Neither looks at the bus (R310). -/

namespace Sys2Proof.Machine

/-- WRITE_TEXT (R171, R174, R175). -/
def execWriteText (line col : Byte) (inverted : Bool) (s : State) : Result :=
  whenIdle s <| andThen (renderText s.payload line.toNat col.toNat inverted s) fun t => .next t.finish

/-- WRITE_REGION (R173, R174, R175); its body is the spec's own decision D17 (log 18). -/
def execWriteRegion (line col : Byte) (s : State) : Result :=
  whenIdle s <|
    if regionFits s.payLen.val line.toNat col.toNat then
      .next (s.storeFb (regionCells line.toNat col.toNat s.payload)).finish
    else .refused .operandRange

end Sys2Proof.Machine
end

