-- ==== Sys2Proof/Machine/Sampler.lean ====
section
/-! DEFINITION. SAMPLE (40_sampler.md). -/

namespace Sys2Proof.Machine

/-- SAMPLE's next atomic step (R130 to R133). From idle: the preconditions, in R263's order, and step 1. The wait
has no effect while its guard is false. The order of steps 2 to 4 is the spec's own decision D4 (log 16). -/
def execSample (s : State) : Result :=
  match s.mf with
  | .idle =>
    if s.argw = 0 then .refused .operandRange
    else if s.busy then .refused .sampleReentry
    else .next { s with adcConfig := .sampleSetup, mf := .sample .enable }
  | .sample .enable => .next { s with adcEnable := true, mf := .sample .arm }
  | .sample .arm => .next { s.armTimeout s.argw with busy := true, mf := .sample .start }
  | .sample .start => .next { s with adcConv := true, mf := .sample .wait }
  | .sample .wait => .next (if waitOver s then { s with mf := .sample .leave } else s)
  | .sample .leave => .next s.leaveSample
  | .flushRange _ => .refused .mainFlowBusy
  | .waitIdle => .refused .mainFlowBusy

end Sys2Proof.Machine
end

