-- ==== Sys2Proof/Machine/Transfer.lean ====
section
/-! DEFINITION. The transfer operations (43_transfer.md). None waits on entry (R220). -/

namespace Sys2Proof.Machine

/-- CLEAR_SCREEN (R215): FB is not touched. -/
def execClearScreen (s : State) : Result :=
  whenIdle s <|
    andThen (transferAsync .scratch 0 2 .auto (s.stage (clearBytes s))) fun t => .next t.finish

/-- FLUSH_LINE (R216): the line is copied into SCRATCH now. -/
def execFlushLine (index : Byte) (s : State) : Result :=
  whenIdle s <|
    if index.toNat ≤ 95 then
      andThen (transferAsync .scratch 0 16 .auto (s.stage (singleLineBytes s index.toNat))) fun t =>
        .next t.finish
    else .refused .operandRange

/-- The next atomic step of a flush of lines `[start, stop)` (R217): the command segment, the wait, the records. -/
def flushLines (start stop : Nat) (s : State) : Result :=
  if start < stop ∧ stop ≤ 96 then
    match s.mf with
    | .idle =>
      andThen (transferAsync .scratch 0 1 .manual (s.stage [s.cfg.cmdWriteMultipleLines])) fun t =>
        .next { t with mf := .flushRange .wait }
    | .flushRange .wait => .next (if s.busActive then s else { s with mf := .flushRange .send })
    | .flushRange .send =>
      andThen (transferAsync .fb (fbAddr start 0) (14 * (stop - start)) .auto s) fun t => .next t.finish
    | .sample _ => .refused .mainFlowBusy
    | .waitIdle => .refused .mainFlowBusy
  else .refused .operandRange

/-- FLUSH_RANGE (R217). -/
def execFlushRange (start stop : Byte) (s : State) : Result :=
  flushLines start.toNat stop.toNat s

/-- FLUSH_ALL (R218): all 96 lines. -/
def execFlushAll (s : State) : Result :=
  flushLines 0 96 s

/-- WAIT_IDLE (R219): blocked, with no other effect, while a segment is active (R213). -/
def execWaitIdle (s : State) : Result :=
  match s.mf with
  | .idle => .next (if s.busActive then { s with mf := .waitIdle } else s.finish)
  | .waitIdle => .next (if s.busActive then s else s.finish)
  | .sample _ => .refused .mainFlowBusy
  | .flushRange _ => .refused .mainFlowBusy

end Sys2Proof.Machine
end

