-- ==== Sys2Proof/Machine/WireCommands.lean ====
section
/-! DEFINITION. The three wire command bytes (R91 to R95): what the block does with one is to send it as the first
byte of a transaction (R94). The bus engine executes them, not the main flow. -/

namespace Sys2Proof.Machine

/-- The bus engine has the command byte `b` to send as the first byte of a transaction: the segment stands at the
start of SCRATCH, where every operation stages its command byte (R35, R215 to R217). -/
def commandStaged (b : Byte) (s : State) : Bool :=
  s.busActive && s.busSrc = .scratch && s.busPtr == 0 && s.load .scratch 0 == b

/-- Send a command byte: the bus engine's step for it (R211). Anywhere else no command byte is on the wire, since
"every transaction begins with a command byte" and only there (R94, log 9). -/
def sendCommand (b : Byte) (s : State) : Result :=
  if commandStaged b s then busByte s else .refused .commandNotStaged

/-- CMD_CLEAR (R91). -/
def execCmdClear (s : State) : Result := sendCommand s.cfg.cmdClear s

/-- CMD_WRITE_ONE_LINE (R92). -/
def execCmdWriteOneLine (s : State) : Result := sendCommand s.cfg.cmdWriteOneLine s

/-- CMD_WRITE_MULTIPLE_LINES (R93). -/
def execCmdWriteMultipleLines (s : State) : Result := sendCommand s.cfg.cmdWriteMultipleLines s

end Sys2Proof.Machine
end

