-- ==== Sys2Proof/Machine/Dispatch.lean ====
section
/-! DEFINITION. One arm per operation of the opcode table. -/

namespace Sys2Proof.Machine

def exec (i : Instr) (s : State) : Host.Outcome State Fault Refusal :=
  match i with
  | .sample => Sys2Proof.Machine.execSample s
  | .writeText line col inverted => Sys2Proof.Machine.execWriteText line col inverted s
  | .writeRegion line col => Sys2Proof.Machine.execWriteRegion line col s
  | .ovClock => Sys2Proof.Machine.execOvClock s
  | .ovBattery pct => Sys2Proof.Machine.execOvBattery pct s
  | .ovConnection on => Sys2Proof.Machine.execOvConnection on s
  | .ovSampling on => Sys2Proof.Machine.execOvSampling on s
  | .ovFix fix => Sys2Proof.Machine.execOvFix fix s
  | .clearScreen => Sys2Proof.Machine.execClearScreen s
  | .flushLine index => Sys2Proof.Machine.execFlushLine index s
  | .flushRange start stop => Sys2Proof.Machine.execFlushRange start stop s
  | .waitIdle => Sys2Proof.Machine.execWaitIdle s
  | .refreshConfigure => Sys2Proof.Machine.execRefreshConfigure s
  | .flushAll => Sys2Proof.Machine.execFlushAll s
  | .cmdClear => Sys2Proof.Machine.execCmdClear s
  | .cmdWriteOneLine => Sys2Proof.Machine.execCmdWriteOneLine s
  | .cmdWriteMultipleLines => Sys2Proof.Machine.execCmdWriteMultipleLines s

end Sys2Proof.Machine
end

