-- ==== Sys2Proof/Machine/MainFlow.lean ====
section
/-! DEFINITION. The main flow's step, one move of any agent, and how a word of the opcode table is put where it runs
next. -/

namespace Sys2Proof.Machine

/-- The main flow's step: the operation in `CW`, from its present position (R23, R97). The word stays in `CW` while
the operation runs, since the host writes only between operations (R281). -/
def mainFlowStep (s : State) : Host.Outcome State Fault Refusal :=
  match decode s.cw with
  | .ok i => exec i s.takeCommand
  | .error _ => .refused .reservedEncoding

/-- One move. A move whose agent has no step in this state leaves the state as it is (log 2). -/
def perform (m : Move) (s : State) : Host.Outcome State Fault Refusal :=
  if enabled s m then
    match m with
    | .mainFlow => mainFlowStep s
    | m => agentStep s m
  else .next s

/-- A command word written as the host writes it; the main flow is idle with nothing pending and moves next (log 7). -/
def State.placeCommand (s : State) (cw : Word) : State :=
  { s with
    cw := cw, cwWritten := true, mf := .idle, irqAdc := false, irqCmp := false, agenda := .mainFlow :: s.agenda }

/-- A wire command byte first in SCRATCH; the bus engine is at the start of that segment and moves next (log 7). -/
def State.placeWireByte (s : State) (b : Byte) : State :=
  { s.stage [b, 0x00] with
    busActive := true, busSrc := .scratch, busPtr := 0, busRem := 2, busMode := .auto, cs := true,
    agenda := .busByte :: s.agenda }

end Sys2Proof.Machine
end

