-- ==== Sys2Proof/Machine/Step.lean ====
section
/-! DEFINITION. One step of the machine: the environment chooses a move, and the chosen agent takes its atomic step if
it has one (R266). -/

namespace Sys2Proof.Machine

/-- One step. -/
def step (s : State) : Host.Outcome State Fault Refusal :=
  perform (nextMove s) s.consumeMove

/-- `s` with a word of the opcode table placed where the machine runs it next (log 7). -/
def State.withFetchWord (s : State) (nbits w : Nat) : State :=
  if nbits ≤ 8 then s.placeWireByte (BitVec.ofNat 8 w) else s.placeCommand (BitVec.ofNat 32 w)

end Sys2Proof.Machine
end

