-- ==== Sys2Proof/Machine/Host.lean ====
section
/-! DEFINITION. Operations with all their operands, as R101 writes them, and the port writes by which a host issues
one (R21, R97, R98, R104, R281). -/

namespace Sys2Proof.Machine

/-- An operation with named operands (R101). -/
inductive Command where
  | sample (timeout : Word)
  | writeText (text : List Byte) (line col : Byte) (inverted : Bool)
  | writeRegion (bytes : List Byte) (line col : Byte)
  | ovClock (ts : Word)
  | ovBattery (pct : Byte)
  | ovConnection (on : Bool)
  | ovSampling (on : Bool)
  | ovFixAbsent
  | ovFix (lat lon : Coordinate)
  | clearScreen
  | flushLine (i : Byte)
  | flushRange (start stop : Byte)
  | flushAll
  | waitIdle
  | refreshConfigure
  deriving DecidableEq, Repr

/-- A boolean operand in field `A` (R99). -/
def boolField (b : Bool) : Byte := if b then 1 else 0

/-- The operation of a command (R99). -/
def Command.instr : Command → Instr
  | .sample _ => .sample
  | .writeText _ line col inverted => .writeText line col inverted
  | .writeRegion _ line col => .writeRegion line col
  | .ovClock _ => .ovClock
  | .ovBattery pct => .ovBattery pct
  | .ovConnection on => .ovConnection (boolField on)
  | .ovSampling on => .ovSampling (boolField on)
  | .ovFixAbsent => .ovFix 0
  | .ovFix _ _ => .ovFix 1
  | .clearScreen => .clearScreen
  | .flushLine i => .flushLine i
  | .flushRange start stop => .flushRange start stop
  | .flushAll => .flushAll
  | .waitIdle => .waitIdle
  | .refreshConfigure => .refreshConfigure

/-- The word operand, where the operation has one (R98, R99). -/
def Command.argw : Command → Option Word
  | .sample timeout => some timeout
  | .ovClock ts => some ts
  | _ => none

/-- A coordinate in the payload layout of R104. -/
def Coordinate.bytes (c : Coordinate) : List Byte :=
  c.deg ++ c.min ++ c.frac ++ c.hemi

/-- The byte-sequence operand, where the operation has one (R98, R104). -/
def Command.payload : Command → Option (List Byte)
  | .writeText text _ _ _ => some text
  | .writeRegion bytes _ _ => some bytes
  | .ovFix lat lon => some (lat.bytes ++ lon.bytes)
  | _ => none

/-- The host's writes of a byte sequence: `PAY` from 0 on, then `PAYLEN`; a sequence longer than `PAY` has none. -/
def payloadMoves (bytes : List Byte) : Option (List Move) :=
  if h : bytes.length < 33 then
    some (((List.finRange 32).zip bytes).map (fun c => Move.hostPay c.1 c.2) ++ [.hostPayLen ⟨bytes.length, h⟩])
  else none

/-- The host's writes that issue a command: operands first, then `CW` (R21, R281). -/
def Command.moves (c : Command) : Option (List Move) := do
  let cw ← encode c.instr
  let payload ← match c.payload with
    | some bytes => payloadMoves bytes
    | none => some []
  return (c.argw.toList.map Move.hostArgw) ++ payload ++ [.hostCommand cw]

end Sys2Proof.Machine
end

