-- ==== Sys2Proof/Machine/Views.lean ====
section
/-! DEFINITION. What can be read off the state: the position, the register views of R102, R103 and R105, the bits and
pixels of R64 and R65, the transactions of R212. Reading changes nothing (R68). -/

namespace Sys2Proof.Machine

/-- The mnemonic in `MF.op`, none for `IDLE` (R23). -/
def MainFlow.op : MainFlow → Option String
  | .idle => none
  | .sample _ => some "SAMPLE"
  | .flushRange _ => some "FLUSH_RANGE"
  | .waitIdle => some "WAIT_IDLE"

/-- `MF.step` (R23): the number of the step to take next, 0 when idle. -/
def MainFlow.step : MainFlow → Nat
  | .idle => 0
  | .sample .enable => 2
  | .sample .arm => 3
  | .sample .start => 4
  | .sample .wait => 5
  | .sample .leave => 6
  | .flushRange .wait => 2
  | .flushRange .send => 3
  | .waitIdle => 1

/-- The register-level view of R102: RES 1:0, INPSEL 4:2, REFSEL 6:5, PSEL 15:8, other bits 0. -/
def AdcConfig.word (c : AdcConfig) : Word :=
  0#16 ++ c.psel ++ 0#1 ++ c.refsel ++ c.inpsel ++ c.res

/-- `BUS.STATUS`: bit 0 is `BUS.active`, other bits 0 (R105). DESIGN CHOICE, safe (log 21): the spec gives the register
no width; it is read as one byte. -/
def State.busStatus (s : State) : Byte := if s.busActive then 1 else 0

/-- The outcome of SAMPLE as the source's sum type (R103). -/
inductive SampleOutcome where
  | ok (value : Byte)
  | timedOut
  deriving DecidableEq, Repr

/-- `RES` read as the outcome of a SAMPLE (R103). -/
def State.sampleOutcome (s : State) : SampleOutcome :=
  if s.resStatus = 1 then .timedOut else .ok s.resValue

/-- The eight bits of a byte in the order they leave on the wire, least significant first (R64). -/
def lsbFirst (b : Byte) : List Bool := (List.range 8).map fun i => b.getLsbD i

/-- The bits a list of events puts on the wire (R64). -/
def wireBits : List WireEvent → List Bool
  | [] => []
  | .byte b :: es => lsbFirst b ++ wireBits es
  | .csAssert :: es => wireBits es
  | .csRelease :: es => wireBits es

/-- Pixel column `c` of line `p`: bit `c mod 8` of `FBL[p][1 + c div 8]` (R65). -/
def State.pixel (s : State) (p c : Nat) : Bool :=
  (s.fbByte p (1 + c / 8)).getLsbD (c % 8)

/-- Whether the pixel shows dark (R65, `PIXEL_ON_IS`). -/
def State.pixelDark (s : State) (p c : Nat) : Bool :=
  s.pixel p c == s.cfg.pixelOnIs

/-- The line record of line `p`: 14 bytes of FB (R60, R90). -/
def State.lineRecord (s : State) (p : Nat) : List Byte :=
  s.loadBytes .fb (fbAddr p 0) 14

/-- The finished transactions of a log, given the bytes since an assertion that is not released yet (R212). -/
def transactionsFrom : Option (List Byte) → List WireEvent → List (List Byte)
  | _, [] => []
  | none, .csAssert :: es => transactionsFrom (some []) es
  | none, .byte _ :: es => transactionsFrom none es
  | none, .csRelease :: es => transactionsFrom none es
  | some _, .csAssert :: es => transactionsFrom (some []) es
  | some bs, .byte b :: es => transactionsFrom (some (bs ++ [b])) es
  | some bs, .csRelease :: es => bs :: transactionsFrom none es

/-- The transactions of a log: the bytes between each assertion and the next release (R212). -/
def transactions (log : List WireEvent) : List (List Byte) := transactionsFrom none log

/-- The bus engine has an operation's command byte to send next: the segment stands at the start of SCRATCH, where
every transaction is staged (R35, R94). -/
def State.atCommandByte (s : State) : Bool :=
  s.busActive && s.busSrc = .scratch && s.busPtr == 0

end Sys2Proof.Machine
end

