-- ==== Sys2Proof/Safety.lean ====
section
/-! DEFINITION. What every state reached from power-up satisfies (R34, R47), in the terms the statements use, and
runs of moves, with the fairness the spec assumes of its agents (D30). -/

namespace Sys2Proof.Machine

/-- Nothing of the sampler is live (the conclusion of R47(e)). -/
def samplerQuiet (s : State) : Bool :=
  !s.busy && !s.timedOut && !s.toArmed && !s.adcEnable && !s.adcConv && !s.irqAdc

/-- The sampler while SAMPLE waits or leaves: a request in flight has exactly one of an armed timeout and a timeout
that fired, and is not converting and complete at once; a completed one has nothing left. -/
def samplerInFlight (s : State) : Bool :=
  s.adcEnable &&
    if s.busy then (s.toArmed != s.timedOut) && !(s.adcConv && s.irqAdc)
    else !s.toArmed && !s.adcConv && !s.irqAdc

/-- The sampler's state at each position of SAMPLE (R47(b) to (e), strengthened to be kept by every step). -/
def samplerInv (s : State) : Bool :=
  match s.mf with
  | .sample .enable => samplerQuiet s
  | .sample .arm =>
    !s.busy && !s.timedOut && !s.toArmed && s.adcEnable && !s.adcConv && !s.irqAdc
  | .sample .start =>
    s.busy && (s.toArmed != s.timedOut) && s.adcEnable && !s.adcConv && !s.irqAdc
  | .sample .wait => samplerInFlight s
  | .sample .leave => samplerInFlight s && waitOver s
  | .idle => samplerQuiet s
  | .flushRange _ => samplerQuiet s
  | .waitIdle => samplerQuiet s

/-- The segment in flight lies inside its space and has bytes left (R39). -/
def segmentInside (s : State) : Bool :=
  !s.busActive || (1 ≤ s.busRem && s.busPtr + s.busRem ≤ s.busSrc.space.size)

/-- The bus and `CS` at each position of the main flow (R47(f), R214, R217, R219). -/
def busInv (s : State) : Bool :=
  segmentInside s &&
  match s.mf with
  | .flushRange .wait => s.cs && s.busMode = .manual
  | .flushRange .send => s.cs && !s.busActive
  | _ => if s.busActive then s.cs && s.busMode = .auto else !s.cs

/-- The refresh chain (R47(g), R43), and before its configuration (R48). -/
def refreshInv (s : State) : Bool :=
  s.timerCnt < 2 ^ s.cfg.timerBits && s.timerCc < 2 ^ s.cfg.timerBits &&
  if s.refConfigured then s.fabricChEn && s.gpioMode = .toggle && s.timerIntenCmp
  else !s.fabricChEn && s.gpioMode = .off && !s.timerIntenCmp && !s.irqCmp && s.toggles == 0

/-- `CW` holds the operation `i` (R97). -/
def holdsCommand (s : State) (i : Instr) : Bool :=
  match decode s.cw with
  | .ok j => j = i
  | .error _ => false

/-- `CW` holds the operation the main flow is in, with operands it runs on (R23, R281). -/
def commandInv (s : State) : Bool :=
  match s.mf with
  | .idle => true
  | .sample _ => !s.cwWritten && holdsCommand s .sample
  | .waitIdle => !s.cwWritten && holdsCommand s .waitIdle
  | .flushRange _ =>
    !s.cwWritten &&
    match decode s.cw with
    | .ok (.flushRange start stop) => start.toNat < stop.toNat && stop.toNat ≤ 96
    | _ => false

/-- Line `p` has its index byte and its pad byte (R34). -/
def lineFramed (s : State) (p : Nat) : Bool :=
  s.fbByte p 0 == BitVec.ofNat 8 (p + 1) && s.fbByte p 13 == 0

/-- The frame-buffer invariants of R34. -/
def frameInv (s : State) : Bool :=
  (List.range 96).all fun p => lineFramed s p

/-- Every memory is in canonical form. -/
def memoryInv (s : State) : Bool :=
  Memory.wf .fb s.fb && Memory.wf .scratch s.scratch && Memory.wf .pay s.pay

/-- The battery cache holds a percentage or nothing (R37). -/
def batteryInv (s : State) : Bool :=
  match s.battPrev with
  | none => true
  | some pct => pct ≤ 100

/-- The machine's invariant. -/
def inv (s : State) : Bool :=
  samplerInv s && busInv s && refreshInv s && commandInv s && frameInv s && memoryInv s && batteryInv s

/-- A command byte that is about to go out has a 0 at the VCOM bit (R94, R221). -/
def vcomBitClear (s : State) : Bool :=
  !s.atCommandByte || !(s.load .scratch 0).getLsbD s.cfg.vcomBit

/-- The screen regions an overlay writer owns: a place and a width in characters (R190, R196). An indicator's width
is that of the text drawn. -/
def overlayRegions (cfg : Config) : Instr → List (Place × Nat)
  | .ovClock => [(cfg.clock, 8)]
  | .ovBattery _ => [(cfg.battery, 4)]
  | .ovConnection on =>
    [(cfg.connection, if on = 1 then cfg.connOnText.length else cfg.connOffText.length)]
  | .ovSampling on =>
    [(cfg.sampling, if on = 1 then cfg.sampOnText.length else cfg.sampOffText.length)]
  | .ovFix _ =>
    [(cfg.latitude, 12), (cfg.latitudeIndicator, 1), (cfg.longitude, 12), (cfg.longitudeIndicator, 1)]
  | _ => []

/-- The address lies in a region: eight lines, `width` byte-columns (R170, R190). -/
def inRegion (region : Place × Nat) (a : Nat) : Bool :=
  region.1.line ≤ a / 14 && a / 14 < region.1.line + 8 &&
  1 + region.1.col ≤ a % 14 && a % 14 < 1 + region.1.col + region.2

/-- The overlay writers (R190). -/
def isOverlay (i : Instr) : Bool :=
  match i with
  | .ovClock | .ovBattery _ | .ovConnection _ | .ovSampling _ | .ovFix _ => true
  | _ => false

/-- The operations of the transfer protocol (43_transfer.md). -/
def isTransfer (i : Instr) : Bool :=
  match i with
  | .clearScreen | .flushLine _ | .flushRange _ _ | .flushAll | .waitIdle => true
  | _ => false

/-- The operations of one atomic step that begin and end idle. -/
def isOneStep (i : Instr) : Bool :=
  match i with
  | .writeText _ _ _ | .writeRegion _ _ | .ovClock | .ovBattery _ | .ovConnection _ | .ovSampling _ | .ovFix _
  | .clearScreen | .flushLine _ | .refreshConfigure => true
  | _ => false

/-- The moves one after another, whatever the agenda says. -/
def runMoves : List Move → State → Result
  | [], s => .next s
  | m :: ms, s => andThen (perform m s) (runMoves ms)

/-- An endless run: `ms n` is the move taken in the state `trace n`, and no move of it stops. -/
def IsRun (trace : Nat → State) (ms : Nat → Move) : Prop :=
  ∀ n, perform (ms n) (trace n) = .next (trace (n + 1))

/-- Weak fairness towards a move (R142, R211, R248, D30): if from some point on its agent always has the step, the step
is taken. The step function assumes it of no agent (log 20); a statement about a fair run names the move. -/
def WeaklyFair (trace : Nat → State) (ms : Nat → Move) (m : Move) : Prop :=
  ∀ n, (∀ k, n ≤ k → enabled (trace k) m = true) → ∃ k, n ≤ k ∧ ms k = m

end Sys2Proof.Machine
end

