-- ==== Sys2Proof/WellFormed.lean ====
section
/-! DEFINITION. The operand ranges that the fields of the command word alone decide (the operand columns of the
opcode table). An ill-formed operation still decodes; its own rule then refuses it (R100(c)). -/

namespace Sys2Proof

/-- The operand fields lie in the ranges the opcode table gives them. -/
def Instr.wf : Instr → Bool
  | .writeText line col _ => line.toNat ≤ 88 && col.toNat ≤ 11
  | .writeRegion line col => line.toNat ≤ 95 && col.toNat ≤ 11
  | .ovBattery pct => pct.toNat ≤ 100
  | .ovConnection on => on.toNat ≤ 1
  | .ovSampling on => on.toNat ≤ 1
  | .ovFix fix => fix.toNat ≤ 1
  | .flushLine index => index.toNat ≤ 95
  | .flushRange start stop => start.toNat < stop.toNat && stop.toNat ≤ 96
  | .sample | .ovClock | .clearScreen | .waitIdle | .refreshConfigure | .flushAll => true
  | .cmdClear | .cmdWriteOneLine | .cmdWriteMultipleLines => true

end Sys2Proof
end

