-- ==== Sys2Proof/Certificates/Slice0/Obligations.lean ====
section
/-! DEFINITION. The statements for the provers. `log n` is notes/assumptions/n.md; `D<n>` is a decision of
92_eei_decisions.md, the spec's own choice where its source is silent. -/

open Sys2Proof Sys2Proof.Machine

/-! ### Encoding -/

/-- R97 to R101, the encoding the spec itself chose (D1): the word of every host operation, at every value of its
fields, decodes to the operation; FLUSH_ALL's word decodes to the FLUSH_RANGE it stands for (R101, log 8). -/
def Obligations.DecodeOfEncode : Prop :=
  ∀ (i : Instr) (w : Word), encode i = some w → decode w = .ok i.canonical

/-- R97 to R100 (D1): a word that decodes is exactly the word of the operation it decodes to, so every reserved or
unused bit that is set makes the word reserved. -/
def Obligations.EncodeOfDecode : Prop :=
  ∀ (w : Word) (i : Instr), decode w = .ok i → encode i = some w

/-- The command words of 95_test_vectors.md V-E1 to V-E22, written out. -/
def Obligations.TestVectorWords : Prop :=
  decode 0x00000001 = .ok .sample ∧
  decode 0x00031010 = .ok (.writeText 16 3 false) ∧
  decode 0x01000810 = .ok (.writeText 8 0 true) ∧
  decode 0x000A5F11 = .ok (.writeRegion 95 10) ∧
  decode 0x00000018 = .ok .ovClock ∧
  decode 0x00005719 = .ok (.ovBattery 87) ∧
  decode 0x0000011A = .ok (.ovConnection 1) ∧
  decode 0x0000001B = .ok (.ovSampling 0) ∧
  decode 0x0000001C = .ok (.ovFix 0) ∧
  decode 0x00000020 = .ok .clearScreen ∧
  decode 0x00005F21 = .ok (.flushLine 95) ∧
  decode 0x00080022 = .ok (.flushRange 0 8) ∧
  decode 0x00600022 = .ok (.flushRange 0 96) ∧
  decode 0x00000024 = .ok .waitIdle ∧
  decode 0x00000030 = .ok .refreshConfigure ∧
  decode 0x00000000 = .error .opsel ∧
  decode 0x00000002 = .error .opsel ∧
  decode 0x00000023 = .error .opsel ∧
  decode 0x00000101 = .error .unusedField ∧
  decode 0x02000010 = .error .zeroField ∧
  decode 0x01000011 = .error .unusedField ∧
  decode 0x00010021 = .error .unusedField

/-- R94, R95, R96 (log 9): the byte of a wire command decodes, under the configuration it was made for, to a wire
command of the same byte, and to the very command where the three constants differ. -/
def Obligations.WireCommandRoundTrip : Prop :=
  ∀ (cfg : Config) (i : Instr) (b : Byte), encodeWire cfg i = some b →
    (∃ j, decodeWire cfg b = some j ∧ encodeWire cfg j = some b) ∧
    (cfg.cmdClear ≠ cfg.cmdWriteOneLine → cfg.cmdClear ≠ cfg.cmdWriteMultipleLines →
      cfg.cmdWriteOneLine ≠ cfg.cmdWriteMultipleLines → decodeWire cfg b = some i)

/-! ### The step -/

/-- R97, R23 (logs 1 and 2): where the main flow is chosen and has a step, and `CW` decodes, the step is `exec` of
the decoded operation, on the state whose choice and whose command are used up. -/
def Obligations.StepRunsDecodedCommand : Prop :=
  ∀ (s : State) (i : Instr), nextMove s = .mainFlow → mainFlowEnabled s = true → decode s.cw = .ok i →
    step s = exec i s.consumeMove.takeCommand

/-- R100(a), R263 (D31): a written command word that is no operation is refused as a reserved encoding. -/
def Obligations.ReservedWordRefused : Prop :=
  ∀ (s : State) (why : Reserved), s.mf = .idle → s.cwWritten = true → s.mainFlowFree = true →
    decode s.cw = .error why → perform .mainFlow s = .refused .reservedEncoding

/-- R266 (D12; disabled choices leave the state, log 2): the main flow has no step while an interrupt is pending or
its wait is not over, and a pending interrupt can always be taken, whatever the main flow does. -/
def Obligations.InterruptsHoldMainFlow : Prop :=
  ∀ s : State,
    (s.irqAdc = true ∨ s.irqCmp = true → perform .mainFlow s = .next s) ∧
    (mainFlowGuard s = false → perform .mainFlow s = .next s) ∧
    (s.irqAdc = true → perform .hAdc s = .next (takeInterrupt s .adcCompletion)) ∧
    (s.irqCmp = true → perform .hCmp s = .next (takeInterrupt s .compareMatch)) ∧
    (s.toArmed = true → perform .toFire s = .next (takeInterrupt s .timeoutExpiry)) ∧
    (∀ q, (takeInterrupt s q).mf = s.mf)

/-- R94 (log 9): where the bus engine is about to send the byte at the start of a transaction and that byte is a
wire command, its step is `exec` of that command. -/
def Obligations.BusEngineRunsWireCommand : Prop :=
  ∀ (s : State) (i : Instr), s.atCommandByte = true → decodeWire s.cfg (s.load .scratch 0) = some i →
    perform .busByte s = exec i s

/-! ### Invariants -/

/-- R34, R47 (strengthened so that every step keeps it): the machine's invariant is kept by every step, whatever
move the environment chooses. -/
def Obligations.StepKeepsInvariant : Prop :=
  ∀ s t : State, inv s = true → step s = .next t → inv t = true

/-- R48 (logs 4 to 6): the invariant holds at reset. -/
def Obligations.ResetMeetsInvariant : Prop :=
  inv State.reset = true

/-- R48, R300: it holds after power-up for every configuration and every value of what R48 leaves unspecified. -/
def Obligations.PowerUpMeetsInvariant : Prop :=
  ∀ (cfg : Config) (u : PowerUp), inv (State.powerUp cfg u) = true

/-- 93: "No behaviour of this hardware is treated as `fault`": from a state that meets the invariant no step
faults. -/
def Obligations.NoFaultUnderInvariant : Prop :=
  ∀ (s : State) (f : Fault), inv s = true → step s ≠ .fault f

/-- R47(b) to (g) and the sampler phase of R26, which the spec derives from its operation rules: the first follow from
the invariant; the phase is what the position (past SAMPLE step 3) and the flags say, and it changes only by R26's
transitions. -/
def Obligations.StateInvariantsOfSpec : Prop :=
  ∀ s : State, inv s = true →
    (s.busy = true → s.mf.op = some "SAMPLE" ∧ s.adcEnable = true) ∧
    (s.adcConv = true → s.busy = true) ∧
    (s.toArmed = true → s.mf.op = some "SAMPLE") ∧
    (s.mf.op ≠ some "SAMPLE" → s.busy = false ∧ s.timedOut = false ∧ s.toArmed = false ∧ s.adcEnable = false ∧
      s.adcConv = false ∧ s.irqAdc = false) ∧
    (s.busActive = true → s.cs = true) ∧
    (s.refConfigured = true → s.fabricChEn = true ∧ s.gpioMode = .toggle ∧ s.timerIntenCmp = true) ∧
    (s.phase = if s.mf.op = some "SAMPLE" ∧ 4 ≤ s.mf.step then
        if s.timedOut then .timedOut else if s.busy then .converting else .completed
      else .idle) ∧
    (∀ m t, perform m s = .next t → t.phase ≠ s.phase →
      s.phase = .idle ∧ t.phase = .converting ∧ m = .mainFlow ∧ s.mf = .sample .arm ∨
      s.phase = .converting ∧ t.phase = .completed ∧ m = .hAdc ∨
      s.phase = .converting ∧ t.phase = .timedOut ∧ m = .toFire ∨
      (s.phase = .completed ∨ s.phase = .timedOut) ∧ t.phase = .idle ∧ m = .mainFlow ∧ s.mf = .sample .leave)

/-- R90, R60: in every state that meets the invariant a line record is the index byte, twelve bitmap bytes and a
zero pad. -/
def Obligations.LineRecordShape : Prop :=
  ∀ (s : State) (p : Nat), inv s = true → p ≤ 95 →
    s.lineRecord p = BitVec.ofNat 8 (p + 1) :: (s.loadBytes .fb (fbAddr p 1) 12 ++ [0x00])

/-- R221: on every board whose parameters obey R94, the command byte the bus engine is about to send has a 0 at the
VCOM bit, after power-up and after every step; and no transfer operation reads or writes `VCOM_PIN`. -/
def Obligations.VcomBitIsZero : Prop :=
  (∀ cfg u, vcomBitClear (State.powerUp cfg u) = true) ∧
  (∀ s t : State, s.cfg.valid = true → inv s = true → vcomBitClear s = true → step s = .next t →
    vcomBitClear t = true) ∧
  (∀ (i : Instr) (s t : State) (v : Bool), isTransfer i = true → exec i s = .next t →
    t.vcomPin = s.vcomPin ∧ exec i { s with vcomPin := v } = .next { t with vcomPin := v })

/-- R247, R248: once configured, no step clears what the refresh chain is made of and no operation writes `VCOM_PIN`;
and from every state that meets the invariant some number of timer ticks brings the counter to the compare value, where
the compare event toggles the pin (the free-running counter is the spec's own decision D26, log 19; this is one run,
since the step assumes no fairness, log 20). In every run that is weakly fair to the compare event and its handler the
toggles grow without bound (the fairness of D26 and D30, log 20; the guard of log 10). -/
def Obligations.RefreshNeverStops : Prop :=
  ∀ s : State, s.refConfigured = true →
    (∀ t, step s = .next t → t.refConfigured = true ∧ t.fabricChEn = s.fabricChEn ∧ t.gpioMode = s.gpioMode ∧
      t.timerIntenCmp = s.timerIntenCmp) ∧
    (∀ i t, exec i s = .next t → t.vcomPin = s.vcomPin) ∧
    (inv s = true →
      ∃ n t u, runMoves (List.replicate n .timerTick) s = .next t ∧ t.timerCnt = t.timerCc ∧
        perform .cmpMatch t = .next u ∧ u.vcomPin = !s.vcomPin ∧ u.toggles = s.toggles + 1) ∧
    (inv s = true →
      ∀ (trace : Nat → State) (ms : Nat → Move), trace 0 = s → IsRun trace ms →
        WeaklyFair trace ms .cmpMatch → WeaklyFair trace ms .hCmp → ∀ bound, ∃ n, bound ≤ (trace n).toggles)

/-- R71: who changes each flag, `DEST`, the two buffers and the pin. -/
def Obligations.SingleWriters : Prop :=
  ∀ (m : Move) (s t : State), perform m s = .next t →
    (s.busy = false → t.busy = true → m = .mainFlow ∧ s.mf = .sample .arm) ∧
    (s.busy = true → t.busy = false → m = .hAdc ∨ m = .mainFlow ∧ s.mf = .sample .leave) ∧
    (s.timedOut = false → t.timedOut = true → m = .toFire) ∧
    (s.timedOut = true → t.timedOut = false → m = .mainFlow ∧ s.mf = .sample .leave) ∧
    (t.dest ≠ s.dest → m = .hAdc) ∧
    (t.fb ≠ s.fb → m = .mainFlow) ∧
    (t.scratch ≠ s.scratch → m = .mainFlow) ∧
    (t.vcomPin ≠ s.vcomPin → m = .cmpMatch ∨
      m = .mainFlow ∧ decode s.cw = .ok .refreshConfigure ∧ s.refConfigured = false ∧ t.refConfigured = true)

/-- R46 (log 3): the parameters carried in the state never change, the two font spaces among them (R61, read-only).
R61, R36: in either font space glyph `g`, row `r` stands at `8*g + r`, the addresses are those below `8 * NGLYPH`, and
what WRITE_TEXT reads for a text byte are the eight bytes from `8 * (c - 32)` on of the space the flag selects. -/
def Obligations.ParametersNeverChange : Prop :=
  (∀ s t : State, step s = .next t → t.cfg = s.cfg) ∧
  (∀ (cfg : Config) (g r : Nat) (glyph : Glyph), cfg.font[g]? = some glyph → ∀ h : r < 8,
    cfg.fontByte .fontN (8 * g + r) = some glyph.normal[r] ∧
    cfg.fontByte .fontI (8 * g + r) = some glyph.inverted[r]) ∧
  (∀ (cfg : Config) (sp : FontSpace) (a : Nat), (cfg.fontByte sp a).isSome = true ↔ a < 8 * cfg.font.length) ∧
  (∀ (cfg : Config) (inverted : Bool) (c : Byte) (g : Glyph), cfg.glyphOf c = some g →
    cfg.fontBytes (if inverted then .fontI else .fontN) (8 * (c.toNat - 32)) 8 = some (g.rows inverted).toList)

/-! ### SAMPLE and its agents -/

/-- R130, R131 (the order of the steps is the spec's own decision D4): SAMPLE's steps 1 to 4, each with everything it
leaves unchanged. -/
def Obligations.SampleStartSequence : Prop :=
  ∀ s : State,
    (s.mf = .idle → s.argw ≠ 0 → s.busy = false →
      exec .sample s = .next { s with adcConfig := .sampleSetup, mf := .sample .enable }) ∧
    (s.mf = .sample .enable → exec .sample s = .next { s with adcEnable := true, mf := .sample .arm }) ∧
    (s.mf = .sample .arm →
      exec .sample s =
        .next { s with busy := true, toArmed := true, toTicks := s.argw, mf := .sample .start }) ∧
    (s.mf = .sample .start → exec .sample s = .next { s with adcConv := true, mf := .sample .wait }) ∧
    AdcConfig.sampleSetup.word = 0x00000018

/-- R132 (D11), R142: the wait passes when `busy = 0` or `timed_out = 1` and changes nothing but the position; else the
main flow has no step. In every run that is weakly fair to the timeout's expiry (D30, log 20), from a state that meets
the invariant the wait's condition comes true. -/
def Obligations.SampleWaits : Prop :=
  ∀ s : State, s.mf = .sample .wait →
    (s.busy = false ∨ s.timedOut = true → exec .sample s = .next { s with mf := .sample .leave }) ∧
    (s.busy = true → s.timedOut = false →
      exec .sample s = .next s ∧ enabled s .mainFlow = false) ∧
    (inv s = true →
      ∀ (trace : Nat → State) (ms : Nat → Move), trace 0 = s → IsRun trace ms → WeaklyFair trace ms .toFire →
        ∃ n, (trace n).mf = .sample .wait ∧ ((trace n).busy = false ∨ (trace n).timedOut = true))

/-- R133 (the test order is the spec's own decision D5), R103, R140 (D7): both exits of SAMPLE, each with everything
it leaves unchanged; no conversion can complete afterwards. -/
def Obligations.SampleExits : Prop :=
  ∀ s : State, s.mf = .sample .leave →
    (s.timedOut = true →
      exec .sample s = .next { s with
        busy := false, timedOut := false, adcEnable := false, adcConv := false, toArmed := false,
        cancelCalls := s.cancelCalls + 1, cancels := if s.toArmed then s.cancels + 1 else s.cancels,
        resStatus := 1, mf := .idle }) ∧
    (s.timedOut = false →
      exec .sample s = .next { s with
        busy := false, adcEnable := false, adcConv := false, resStatus := 0, resValue := s.dest, mf := .idle }) ∧
    (∀ t v, exec .sample s = .next t → enabled t (.adcComplete v) = false)

/-- R138: every exit of SAMPLE powers the converter down, and in every state that meets the invariant it is down
outside SAMPLE. -/
def Obligations.PowerDownOnEveryExit : Prop :=
  (∀ s : State, s.mf = .sample .leave →
    ∃ t, exec .sample s = .next t ∧ t.mf = .idle ∧ t.adcEnable = false) ∧
  (∀ s : State, inv s = true → s.mf.op ≠ some "SAMPLE" → s.adcEnable = false)

/-- R130, R263 (D9, D31): what SAMPLE refuses, the operand before the state. -/
def Obligations.SampleRefusals : Prop :=
  ∀ s : State, s.mf = .idle →
    (s.argw = 0 → exec .sample s = .refused .operandRange) ∧
    (s.argw ≠ 0 → s.busy = true → exec .sample s = .refused .sampleReentry)

/-- R135: the completion handler's whole effect. -/
def Obligations.CompletionHandler : Prop :=
  ∀ s : State, s.irqAdc = true →
    perform .hAdc s = .next { s with
      toArmed := false, cancelCalls := s.cancelCalls + 1,
      cancels := if s.toArmed then s.cancels + 1 else s.cancels,
      dest := s.adcResult, busy := false, irqAdc := false }

/-- R136: arming and cancelling the timeout; cancelling again changes only the ghost call counter; and in no state
that meets the invariant would SAMPLE arm a timeout already armed. -/
def Obligations.TimeoutPrimitive : Prop :=
  (∀ (s : State) (n : Word), s.armTimeout n = { s with toArmed := true, toTicks := n }) ∧
  (∀ s : State, s.cancelTimeout = { s with
    cancelCalls := s.cancelCalls + 1, cancels := if s.toArmed then s.cancels + 1 else s.cancels,
    toArmed := false }) ∧
  (∀ s : State, s.cancelTimeout.cancelTimeout = { s.cancelTimeout with cancelCalls := s.cancelCalls + 2 }) ∧
  (∀ s : State, inv s = true → s.mf = .sample .arm → s.toArmed = false)

/-- R137, R268 (that expiry and flag are one step is the spec's own decision D6): the expiry's whole effect, and that
none is delivered after the completion handler. -/
def Obligations.TimeoutExpiry : Prop :=
  (∀ s : State, s.toArmed = true → perform .toFire s = .next { s with toArmed := false, timedOut := true }) ∧
  (∀ s t : State, perform .hAdc s = .next t → s.irqAdc = true → enabled t .toFire = false)

/-- R134, R139 (D8): a conversion in flight may complete with any byte; without one nothing happens. -/
def Obligations.ConversionCompletes : Prop :=
  ∀ (s : State) (v : Byte),
    (s.adcEnable = true → s.adcConv = true →
      perform (.adcComplete v) s = .next { s with adcResult := v, adcConv := false, irqAdc := true }) ∧
    (s.adcEnable = false ∨ s.adcConv = false → perform (.adcComplete v) s = .next s)

/-- R143 and the rows of R141, over whole calls (that `timed_out` is tested first is the spec's own decision D5, what
`RES` shows D10, log 17): a completion before the timeout returns the stored result with the registration cancelled
exactly once; the timeout first, alone or with a completion after it or latched before it, returns the timeout; `busy`
and the enable are 0 in all cases. -/
def Obligations.SampleCallOutcomes : Prop :=
  ∀ (s : State) (v : Byte), s.mf = .idle → samplerQuiet s = true → s.irqCmp = false → s.cwWritten = true →
    decode s.cw = .ok .sample → s.argw ≠ 0 →
    (∃ t, runMoves [.mainFlow, .mainFlow, .mainFlow, .mainFlow, .adcComplete v, .hAdc, .mainFlow, .mainFlow] s
        = .next t ∧ t.mf = .idle ∧ t.sampleOutcome = .ok v ∧ t.dest = v ∧ t.cancels = s.cancels + 1 ∧
      t.busy = false ∧ t.adcEnable = false) ∧
    (∃ t, runMoves [.mainFlow, .mainFlow, .mainFlow, .mainFlow, .toFire, .mainFlow, .mainFlow] s
        = .next t ∧ t.mf = .idle ∧ t.sampleOutcome = .timedOut ∧ t.dest = s.dest ∧ t.resValue = s.resValue ∧
      t.cancels = s.cancels ∧ t.busy = false ∧ t.adcEnable = false) ∧
    (∃ t, runMoves [.mainFlow, .mainFlow, .mainFlow, .mainFlow, .toFire, .adcComplete v, .hAdc, .mainFlow,
        .mainFlow] s = .next t ∧ t.mf = .idle ∧ t.sampleOutcome = .timedOut ∧ t.dest = v ∧
      t.busy = false ∧ t.adcEnable = false) ∧
    (∃ t, runMoves [.mainFlow, .mainFlow, .mainFlow, .mainFlow, .adcComplete v, .toFire, .hAdc, .mainFlow,
        .mainFlow] s = .next t ∧ t.mf = .idle ∧ t.sampleOutcome = .timedOut ∧ t.dest = v ∧
      t.busy = false ∧ t.adcEnable = false)

/-- R144: everything SAMPLE leaves unchanged, at whichever of its steps. -/
def Obligations.SampleFrame : Prop :=
  ∀ s t : State, exec .sample s = .next t →
    t = { s with
      mf := t.mf, busy := t.busy, timedOut := t.timedOut, adcEnable := t.adcEnable, adcConfig := t.adcConfig,
      adcConv := t.adcConv, toArmed := t.toArmed, toTicks := t.toTicks, cancels := t.cancels,
      cancelCalls := t.cancelCalls, resStatus := t.resStatus, resValue := t.resValue }

/-! ### The renderer -/

/-- R171, R172: WRITE_TEXT's word; within its bounds it stores row `r` of the `i`-th character's glyph at
`FBL[line + r][1 + column_offset + i]` (so the first glyph's row 0 reads back at column 1 of its line), leaves every
other byte of FB and all other state as it was, and reports OK; otherwise it is refused. -/
def Obligations.WriteTextStoresGlyphs : Prop :=
  ∀ (s : State) (line col : Byte) (inverted : Bool), s.mf = .idle →
    encode (.writeText line col inverted) = some (0x00000010 ||| line.setWidth 32 <<< 8 ||| col.setWidth 32 <<< 16 |||
      (if inverted then 1#32 <<< 24 else 0#32)) ∧
    (Memory.wf .fb s.fb = true → textFits s.payLen.val line.toNat col.toNat = true →
      s.cfg.hasGlyphs s.payload = true →
      ∃ t, exec (.writeText line col inverted) s = .next t ∧
        t = { s with fb := t.fb, resStatus := 0 } ∧
        (∀ i c g r, s.payload[i]? = some c → s.cfg.glyphOf c = some g → ∀ h : r < 8,
          t.fbByte (line.toNat + r) (1 + col.toNat + i) = (g.rows inverted)[r]) ∧
        (∀ a, (∀ i r, i < s.payLen.val → r < 8 → a ≠ fbAddr (line.toNat + r) (1 + col.toNat + i)) →
          t.load .fb a = s.load .fb a)) ∧
    (textFits s.payLen.val line.toNat col.toNat = false ∨ s.cfg.hasGlyphs s.payload = false →
      exec (.writeText line col inverted) s = .refused .operandRange)

/-- R175: writing the same text or region again changes nothing more, and a second text or region of the same length
over the first leaves what it would have left alone. -/
def Obligations.RenderingOverwrites : Prop :=
  ∀ (s t u v : State) (pay : Memory) (line col : Byte) (inverted inverted' : Bool), Memory.wf .fb s.fb = true →
    (exec (.writeText line col inverted) s = .next t →
      exec (.writeText line col inverted) t = .next t ∧
      (exec (.writeText line col inverted') { t with pay := pay } = .next u →
        exec (.writeText line col inverted') { s with pay := pay } = .next v → u.fb = v.fb)) ∧
    (exec (.writeRegion line col) s = .next t →
      exec (.writeRegion line col) t = .next t ∧
      (exec (.writeRegion line col) { t with pay := pay } = .next u →
        exec (.writeRegion line col) { s with pay := pay } = .next v → u.fb = v.fb))

/-- R173 (the body is the spec's own decision D17, log 18): WRITE_REGION copies its bytes into one line, leaves every
other byte of FB and all other state as it was, and reports OK; out of bounds it is refused. R65, R64 (D13): as pixels,
bit `j` of byte `i` is column `8 * (column_offset + i) + j` of the line, and the data bytes of every line leave on the
wire as its 96 columns in ascending order. -/
def Obligations.WriteRegionStoresBytes : Prop :=
  ∀ (s : State) (line col : Byte), s.mf = .idle →
    (Memory.wf .fb s.fb = true → regionFits s.payLen.val line.toNat col.toNat = true →
      ∃ t, exec (.writeRegion line col) s = .next t ∧
        t = { s with fb := t.fb, resStatus := 0 } ∧
        (∀ i b, s.payload[i]? = some b → t.fbByte line.toNat (1 + col.toNat + i) = b ∧
          ∀ j, j < 8 → t.pixel line.toNat (8 * (col.toNat + i) + j) = b.getLsbD j) ∧
        (∀ p, wireBits ((t.loadBytes .fb (fbAddr p 1) 12).map .byte) = (List.range 96).map (t.pixel p)) ∧
        (∀ a, (∀ i, i < s.payLen.val → a ≠ fbAddr line.toNat (1 + col.toNat + i)) →
          t.load .fb a = s.load .fb a)) ∧
    (regionFits s.payLen.val line.toNat col.toNat = false →
      exec (.writeRegion line col) s = .refused .operandRange)

/-- R176 and R314, extended to every operation: none changes an index byte or a pad byte. -/
def Obligations.IndexAndPadKept : Prop :=
  ∀ (i : Instr) (s t : State) (p : Nat), Memory.wf .fb s.fb = true → exec i s = .next t →
    t.fbByte p 0 = s.fbByte p 0 ∧ t.fbByte p 13 = s.fbByte p 13

/-! ### The overlays -/

/-- R191 (unit and pad character are the spec's own decision D19): OV_CLOCK draws `HH:MM:SS` at its place and changes
nothing else but RES.STATUS; from 86400 seconds on it is refused. -/
def Obligations.ClockOverlayDraws : Prop :=
  ∀ s : State, s.mf = .idle →
    (s.argw.toNat < 86400 → s.cfg.clock.fits 8 = true → s.cfg.hasGlyphs (clockText s.argw.toNat) = true →
      ∃ cells, textCells s.cfg s.cfg.clockInv s.cfg.clock.line (1 + s.cfg.clock.col) (clockText s.argw.toNat)
          = some cells ∧
        exec .ovClock s = .next { s with fb := Memory.writeAll .fb s.fb cells, resStatus := 0 }) ∧
    (86400 ≤ s.argw.toNat → exec .ovClock s = .refused .operandRange)

/-- R191 (D19): the clock text is two digits each for hours, minutes and seconds, with colons, that read back as the
timestamp. -/
def Obligations.ClockTextReadsBack : Prop :=
  ∀ ts : Nat, ts < 86400 →
    ∃ h1 h0 m1 m0 s1 s0 : Nat, h1 < 10 ∧ h0 < 10 ∧ m1 < 6 ∧ m0 < 10 ∧ s1 < 6 ∧ s0 < 10 ∧
      clockText ts = [digit h1, digit h0, 0x3A, digit m1, digit m0, 0x3A, digit s1, digit s0] ∧
      ts = 3600 * (10 * h1 + h0) + 60 * (10 * m1 + m0) + (10 * s1 + s0)

/-- R192 (D20): OV_BATTERY draws and caches a new percentage, changes nothing but RES.STATUS when the cache holds it,
so that a repeat at once leaves the state as it is; above 100 it is refused. -/
def Obligations.BatteryOverlayDraws : Prop :=
  ∀ (s : State) (pct : Byte), s.mf = .idle →
    (pct.toNat ≤ 100 → s.battPrev ≠ some pct.toNat → s.cfg.battery.fits 4 = true →
      s.cfg.hasGlyphs (batteryText pct.toNat) = true →
      ∃ cells, textCells s.cfg s.cfg.batteryInv s.cfg.battery.line (1 + s.cfg.battery.col) (batteryText pct.toNat)
          = some cells ∧
        exec (.ovBattery pct) s = .next { s with
          fb := Memory.writeAll .fb s.fb cells, battPrev := some pct.toNat, resStatus := 0 }) ∧
    (pct.toNat ≤ 100 → s.battPrev = some pct.toNat → exec (.ovBattery pct) s = .next { s with resStatus := 0 }) ∧
    (∀ t, exec (.ovBattery pct) s = .next t → exec (.ovBattery pct) t = .next t) ∧
    (100 < pct.toNat → exec (.ovBattery pct) s = .refused .operandRange)

/-- R192 (D20): the battery text is four bytes, spaces, then the digits of the percentage without leading zero, then
`%`. -/
def Obligations.BatteryTextShape : Prop :=
  (∀ d : Nat, d < 10 → batteryText d = [0x20, 0x20, digit d, 0x25]) ∧
  (∀ t d : Nat, 1 ≤ t → t < 10 → d < 10 → batteryText (10 * t + d) = [0x20, digit t, digit d, 0x25]) ∧
  batteryText 100 = [digit 1, digit 0, digit 0, 0x25]

/-- R193, R194 (D21): the indicators draw one of their two texts at their place, every time, and change nothing else
but RES.STATUS; an operand above 1 is refused. -/
def Obligations.IndicatorOverlaysDraw : Prop :=
  ∀ (s : State) (on : Byte), s.mf = .idle → s.cfg.valid = true →
    (on.toNat ≤ 1 →
      (∃ cells, textCells s.cfg s.cfg.connectionInv s.cfg.connection.line (1 + s.cfg.connection.col)
          (if on = 1 then s.cfg.connOnText else s.cfg.connOffText) = some cells ∧
        exec (.ovConnection on) s = .next { s with fb := Memory.writeAll .fb s.fb cells, resStatus := 0 }) ∧
      (∃ cells, textCells s.cfg s.cfg.samplingInv s.cfg.sampling.line (1 + s.cfg.sampling.col)
          (if on = 1 then s.cfg.sampOnText else s.cfg.sampOffText) = some cells ∧
        exec (.ovSampling on) s = .next { s with fb := Memory.writeAll .fb s.fb cells, resStatus := 0 })) ∧
    (1 < on.toNat →
      exec (.ovConnection on) s = .refused .operandRange ∧ exec (.ovSampling on) s = .refused .operandRange)

/-- R195, R104 (the format is the spec's own decision D22, log 18): OV_FIX draws, for latitude and then longitude, the
text and the indicator of the fix record or the placeholders, and changes nothing else but RES.STATUS; other operands
are refused. -/
def Obligations.FixOverlayDraws : Prop :=
  ∀ s : State, s.mf = .idle → s.cfg.valid = true →
    (s.cfg.hasGlyphs placeholderText = true →
      ∃ c1 c2 c3 c4,
        textCells s.cfg s.cfg.fixInv s.cfg.latitude.line 1 placeholderText = some c1 ∧
        textCells s.cfg s.cfg.fixInv s.cfg.latitudeIndicator.line (1 + s.cfg.latitudeIndicator.col)
          placeholderIndicator = some c2 ∧
        textCells s.cfg s.cfg.fixInv s.cfg.longitude.line 1 placeholderText = some c3 ∧
        textCells s.cfg s.cfg.fixInv s.cfg.longitudeIndicator.line (1 + s.cfg.longitudeIndicator.col)
          placeholderIndicator = some c4 ∧
        exec (.ovFix 0) s =
          .next { s with fb := Memory.writeAll .fb s.fb (c1 ++ c2 ++ c3 ++ c4), resStatus := 0 }) ∧
    (s.payLen.val = 20 → s.cfg.hasGlyphs (s.payload ++ placeholderText) = true →
      ∃ c1 c2 c3 c4,
        textCells s.cfg s.cfg.fixInv s.cfg.latitude.line 1 (coordinateAt s.payload 0).text = some c1 ∧
        textCells s.cfg s.cfg.fixInv s.cfg.latitudeIndicator.line (1 + s.cfg.latitudeIndicator.col)
          (coordinateAt s.payload 0).hemi = some c2 ∧
        textCells s.cfg s.cfg.fixInv s.cfg.longitude.line 1 (coordinateAt s.payload 10).text = some c3 ∧
        textCells s.cfg s.cfg.fixInv s.cfg.longitudeIndicator.line (1 + s.cfg.longitudeIndicator.col)
          (coordinateAt s.payload 10).hemi = some c4 ∧
        exec (.ovFix 1) s =
          .next { s with fb := Memory.writeAll .fb s.fb (c1 ++ c2 ++ c3 ++ c4), resStatus := 0 }) ∧
    (s.payLen.val ≠ 20 → exec (.ovFix 1) s = .refused .operandRange) ∧
    (∀ fix : Byte, 1 < fix.toNat → exec (.ovFix fix) s = .refused .operandRange)

/-- R196: an overlay writer changes only bytes of its own regions, RES.STATUS and, for OV_BATTERY, the battery cache,
which then holds the percentage; it starts no bus transfer. -/
def Obligations.OverlaysKeepToTheirRegions : Prop :=
  ∀ (i : Instr) (s t : State), isOverlay i = true → Memory.wf .fb s.fb = true → exec i s = .next t →
    t = { s with
      fb := t.fb, resStatus := 0,
      battPrev := match i with
        | .ovBattery pct => some pct.toNat
        | _ => s.battPrev } ∧
    (∀ a, (∀ region ∈ overlayRegions s.cfg i, inRegion region a = false) → t.load .fb a = s.load .fb a)

/-- R197: an overlay writer never fails; its only refusal is that of its operand range. -/
def Obligations.OverlaysNeverFail : Prop :=
  ∀ (i : Instr) (s : State), isOverlay i = true → s.mf = .idle →
    (∃ t, exec i s = .next t) ∨ exec i s = .refused .operandRange

/-! ### The transfer protocol -/

/-- R215, R216 (what blocks and what is copied is the spec's own decision D24): on an idle bus CLEAR_SCREEN and
FLUSH_LINE stage their bytes in SCRATCH, start one segment of them and report OK; FB is untouched. -/
def Obligations.ScratchTransfersStart : Prop :=
  ∀ (s : State) (i : Byte), s.mf = .idle → s.busActive = false →
    exec .clearScreen s = .next { s with
      scratch := Memory.writeAll .scratch s.scratch (cellsFrom 0 [s.cfg.cmdClear, 0x00]),
      wire := if s.cs then s.wire else s.wire ++ [.csAssert], cs := true,
      busSrc := .scratch, busPtr := 0, busRem := 2, busMode := .auto, busActive := true, resStatus := 0 } ∧
    (i.toNat ≤ 95 → exec (.flushLine i) s = .next { s with
      scratch := Memory.writeAll .scratch s.scratch (cellsFrom 0
        (s.cfg.cmdWriteOneLine :: (s.loadBytes .fb (fbAddr i.toNat 0) 13 ++ [0x00, 0x00]))),
      wire := if s.cs then s.wire else s.wire ++ [.csAssert], cs := true,
      busSrc := .scratch, busPtr := 0, busRem := 16, busMode := .auto, busActive := true, resStatus := 0 })

/-- R217 (D24), R218: the three steps of FLUSH_RANGE, and of FLUSH_ALL with the range 0 to 96, each with everything
it leaves unchanged. -/
def Obligations.RangeTransferSteps : Prop :=
  ∀ (i : Instr) (start stop : Nat),
    (i = .flushAll ∧ start = 0 ∧ stop = 96 ∨
      ∃ a b : Byte, i = .flushRange a b ∧ start = a.toNat ∧ stop = b.toNat) →
    start < stop → stop ≤ 96 → ∀ s : State,
      (s.mf = .idle → s.busActive = false →
        exec i s = .next { s with
          scratch := Memory.writeAll .scratch s.scratch (cellsFrom 0 [s.cfg.cmdWriteMultipleLines]),
          wire := if s.cs then s.wire else s.wire ++ [.csAssert], cs := true,
          busSrc := .scratch, busPtr := 0, busRem := 1, busMode := .manual, busActive := true,
          mf := .flushRange .wait }) ∧
      (s.mf = .flushRange .wait → s.busActive = true → exec i s = .next s ∧ enabled s .mainFlow = false) ∧
      (s.mf = .flushRange .wait → s.busActive = false → exec i s = .next { s with mf := .flushRange .send }) ∧
      (s.mf = .flushRange .send → s.busActive = false →
        exec i s = .next { s with
          wire := if s.cs then s.wire else s.wire ++ [.csAssert], cs := true,
          busSrc := .fb, busPtr := 14 * start, busRem := 14 * (stop - start), busMode := .auto, busActive := true,
          resStatus := 0, mf := .idle })

/-- R91: the whole clear-screen transaction. -/
def Obligations.ClearScreenTransaction : Prop :=
  ∀ s : State, s.mf = .idle → s.busActive = false → s.cs = false → Memory.wf .scratch s.scratch = true →
    ∃ t u, exec .clearScreen s = .next t ∧ runMoves [.busByte, .busByte] t = .next u ∧
      u.wire = s.wire ++ [.csAssert, .byte s.cfg.cmdClear, .byte 0x00, .csRelease] ∧ u.busActive = false

/-- R92: the whole single-line transaction, sixteen bytes, for every line. -/
def Obligations.SingleLineTransaction : Prop :=
  ∀ (s : State) (i : Byte), s.mf = .idle → s.busActive = false → s.cs = false → inv s = true → i.toNat ≤ 95 →
    ∃ t u, exec (.flushLine i) s = .next t ∧ runMoves (List.replicate 16 .busByte) t = .next u ∧
      u.wire = s.wire ++ .csAssert ::
        ((s.cfg.cmdWriteOneLine :: BitVec.ofNat 8 (i.toNat + 1) ::
          (s.loadBytes .fb (fbAddr i.toNat 1) 12 ++ [0x00, 0x00])).map .byte ++ [.csRelease]) ∧
      u.busActive = false

/-- R93: the whole multi-line transaction, two segments under one chip-select, for every range: what the host's
command, the engine's steps and the main flow's steps put on the wire. -/
def Obligations.MultiLineTransaction : Prop :=
  ∀ (s : State) (a b : Byte), s.mf = .idle → inv s = true → s.busActive = false → s.irqCmp = false →
    s.cwWritten = true → decode s.cw = .ok (.flushRange a b) → a.toNat < b.toNat → b.toNat ≤ 96 →
    ∃ u, runMoves ([.mainFlow, .busByte, .mainFlow, .mainFlow] ++
        List.replicate (14 * (b.toNat - a.toNat)) .busByte) s = .next u ∧
      u.wire = s.wire ++ [.csAssert, .byte s.cfg.cmdWriteMultipleLines] ++
        (s.loadBytes .fb (14 * a.toNat) (14 * (b.toNat - a.toNat))).map .byte ++ [.csRelease] ∧
      u.busActive = false ∧ u.mf = .idle ∧ u.resStatus = 0

/-- R218: FLUSH_ALL has the word of FLUSH_RANGE 0, 96 and does what that does, in every state; its transaction has
1345 bytes. -/
def Obligations.FlushAllIsFullRange : Prop :=
  encode .flushAll = some 0x00600022 ∧ decode 0x00600022 = .ok (.flushRange 0 96) ∧
  (∀ s : State, exec .flushAll s = exec (.flushRange 0 96) s) ∧
  (∀ s : State, s.mf = .idle → inv s = true → s.busActive = false → s.irqCmp = false →
    s.cwWritten = true → s.cw = 0x00600022 →
    ∃ (u : State) (bytes : List Byte),
      runMoves ([.mainFlow, .busByte, .mainFlow, .mainFlow] ++ List.replicate 1344 .busByte) s = .next u ∧
      bytes.length = 1345 ∧ u.wire = s.wire ++ .csAssert :: (bytes.map .byte ++ [.csRelease]))

/-- R219: WAIT_IDLE's word; it blocks while a segment is active and returns at once when the bus is idle; in a state
that meets the invariant `CS` is then released. That a WAIT_IDLE taken on a busy bus has a step which sets the position
and nothing else is the model's choice (log 1). -/
def Obligations.WaitIdleWaits : Prop :=
  encode .waitIdle = some 0x00000024 ∧
  ∀ s : State,
    (s.mf = .idle → s.busActive = true → exec .waitIdle s = .next { s with mf := .waitIdle }) ∧
    (s.mf = .waitIdle → s.busActive = true → exec .waitIdle s = .next s ∧ enabled s .mainFlow = false) ∧
    (s.mf = .idle ∨ s.mf = .waitIdle → s.busActive = false →
      exec .waitIdle s = .next { s with resStatus := 0, mf := .idle } ∧ (inv s = true → s.cs = false))

/-- R210, R215 to R217, R263 (D24, D31): a transfer with operands outside its range is refused whatever the bus does,
and one with operands in range on a busy bus. -/
def Obligations.TransferRefusals : Prop :=
  ∀ (s : State) (i a b : Byte), s.mf = .idle →
    (95 < i.toNat → exec (.flushLine i) s = .refused .operandRange) ∧
    (b.toNat ≤ a.toNat ∨ 96 < b.toNat → exec (.flushRange a b) s = .refused .operandRange) ∧
    (s.busActive = true →
      exec .clearScreen s = .refused .busBusy ∧ exec .flushAll s = .refused .busBusy ∧
      (i.toNat ≤ 95 → exec (.flushLine i) s = .refused .busBusy) ∧
      (a.toNat < b.toNat → b.toNat ≤ 96 → exec (.flushRange a b) s = .refused .busBusy))

/-- R211, R214 (the bus model is the spec's own decision D23): the bus engine's step, in the middle of a segment, at
the end of an Auto and of a Manual one; outside its space it faults (log 15). In every run that is weakly fair to the
engine (D30, log 20) the segment ends. -/
def Obligations.BusEngineEmits : Prop :=
  ∀ s : State, s.busActive = true →
    (s.busPtr < s.busSrc.space.size → 2 ≤ s.busRem →
      perform .busByte s = .next { s with
        wire := s.wire ++ [.byte (s.load s.busSrc.space s.busPtr)],
        busPtr := s.busPtr + 1, busRem := s.busRem - 1 }) ∧
    (s.busPtr < s.busSrc.space.size → s.busRem ≤ 1 → s.busMode = .auto →
      perform .busByte s = .next { s with
        wire := s.wire ++ [.byte (s.load s.busSrc.space s.busPtr), .csRelease],
        busPtr := s.busPtr + 1, busRem := 0, busActive := false, cs := false }) ∧
    (s.busPtr < s.busSrc.space.size → s.busRem ≤ 1 → s.busMode = .manual →
      perform .busByte s = .next { s with
        wire := s.wire ++ [.byte (s.load s.busSrc.space s.busPtr)],
        busPtr := s.busPtr + 1, busRem := 0, busActive := false }) ∧
    (s.busSrc.space.size ≤ s.busPtr →
      perform .busByte s = .fault (.noSuchAddress s.busSrc.space s.busPtr)) ∧
    (∀ (trace : Nat → State) (ms : Nat → Move), trace 0 = s → IsRun trace ms → WeaklyFair trace ms .busByte →
      ∃ n, (trace n).busActive = false)

/-- R63, R64, R222: an active segment completes, and its bytes leave in ascending address order, each the byte read,
whatever it stands for, and each with its bit 0 first and its bit 7 last. -/
def Obligations.SegmentCompletesInOrder : Prop :=
  ∀ s : State, inv s = true → s.busActive = true →
    ∃ u, runMoves (List.replicate s.busRem .busByte) s = .next u ∧ u.busActive = false ∧
      u.wire = s.wire ++ (s.loadBytes s.busSrc.space s.busPtr s.busRem).map .byte ++
        (if s.busMode = .auto then [.csRelease] else []) ∧
      wireBits u.wire = wireBits s.wire ++ (s.loadBytes s.busSrc.space s.busPtr s.busRem).flatMap fun b =>
        [b.getLsbD 0, b.getLsbD 1, b.getLsbD 2, b.getLsbD 3, b.getLsbD 4, b.getLsbD 5, b.getLsbD 6, b.getLsbD 7]

/-- R72: a write to FB while a segment is read from it: bytes the engine has passed went out old, the others go out
new, up to and with the segment's last byte, after which an Auto segment releases `CS`. -/
def Obligations.WriteRacesBusEngine : Prop :=
  ∀ (s : State) (n k a : Nat) (b : Byte), s.busActive = true → s.busSrc = .fb → Memory.wf .fb s.fb = true →
    s.busPtr + s.busRem ≤ 1344 → n + k ≤ s.busRem → a < 1344 →
    ∃ t u, runMoves (List.replicate n .busByte) s = .next t ∧
      runMoves (List.replicate k .busByte) (t.storeFb [(a, b)]) = .next u ∧
      u.wire = s.wire ++ ((List.range (n + k)).map fun j =>
          .byte (if s.busPtr + j = a ∧ n ≤ j then b else s.load .fb (s.busPtr + j))) ++
        (if 0 < n + k ∧ n + k = s.busRem ∧ s.busMode = .auto then [.csRelease] else [])

/-! ### The refresh chain -/

/-- R241 (D26): REFRESH_CONFIGURE's whole effect; a second one is refused. -/
def Obligations.RefreshConfigures : Prop :=
  ∀ s : State, s.mf = .idle →
    (s.refConfigured = false →
      exec .refreshConfigure s = .next { s with
        vcomPin := s.cfg.vcomInit, gpioMode := .toggle, fabricChEn := true, timerIntenCmp := true,
        timerCc := (s.timerCnt + s.cfg.period) % 2 ^ s.cfg.timerBits, refConfigured := true, toggles := 0,
        resStatus := 0 }) ∧
    (s.refConfigured = true → exec .refreshConfigure s = .refused .alreadyConfigured)

/-- R244: the compare event's whole effect, wherever the main flow stands; before the chain is configured it changes
nothing. -/
def Obligations.CompareMatchToggles : Prop :=
  ∀ s : State, s.timerCnt = s.timerCc →
    perform .cmpMatch s = .next { s with
      vcomPin := if s.fabricChEn = true ∧ s.gpioMode = .toggle then !s.vcomPin else s.vcomPin,
      toggles := if s.fabricChEn = true ∧ s.gpioMode = .toggle then s.toggles + 1 else s.toggles,
      irqCmp := if s.timerIntenCmp then true else s.irqCmp } ∧
    (inv s = true → s.refConfigured = false → perform .cmpMatch s = .next s)

/-- R243, R246 (D26): the counter's tick and the duty of the re-arm handler. R244's second guard, which log 10 admits
beside the first: with the chain configured and no compare interrupt pending the compare event has the same effect
wherever the counter stands. -/
def Obligations.TimerTicksAndRearms : Prop :=
  ∀ s : State,
    perform .timerTick s = .next { s with timerCnt := (s.timerCnt + 1) % 2 ^ s.cfg.timerBits } ∧
    (s.irqCmp = true → perform .hCmp s =
      .next { s with timerCc := (s.timerCc + s.cfg.period) % 2 ^ s.cfg.timerBits, irqCmp := false }) ∧
    (s.refConfigured = true → s.irqCmp = false → perform .cmpMatch s = .next { s with
      vcomPin := if s.fabricChEn = true ∧ s.gpioMode = .toggle then !s.vcomPin else s.vcomPin,
      toggles := if s.fabricChEn = true ∧ s.gpioMode = .toggle then s.toggles + 1 else s.toggles,
      irqCmp := s.timerIntenCmp })

/-- R76: the compare event and any step of the converter, the bus engine, the completion handler or the timeout do not
see each other: in either order they leave the same state. -/
def Obligations.RefreshIndependent : Prop :=
  ∀ (s t u : State) (m : Move),
    (m = .busByte ∨ m = .hAdc ∨ m = .toFire ∨ ∃ v, m = .adcComplete v) →
    perform m s = .next t → perform .cmpMatch s = .next u →
    ∃ r, perform .cmpMatch t = .next r ∧ perform m u = .next r

/-! ### Wire commands, power-up, the host -/

/-- R94, R211 (log 9): a wire command that stands staged as the first byte of its transaction is sent: the byte goes
on the wire and the segment advances; where it is not staged it is refused. -/
def Obligations.WireCommandsSend : Prop :=
  ∀ (s : State) (i : Instr) (b : Byte), encodeWire s.cfg i = some b →
    (commandStaged b s = true → 2 ≤ s.busRem →
      exec i s = .next { s with wire := s.wire ++ [.byte b], busPtr := 1, busRem := s.busRem - 1 }) ∧
    (commandStaged b s = true → s.busRem ≤ 1 → s.busMode = .manual →
      exec i s = .next { s with wire := s.wire ++ [.byte b], busPtr := 1, busRem := 0, busActive := false }) ∧
    (commandStaged b s = true → s.busRem ≤ 1 → s.busMode = .auto →
      exec i s = .next { s with
        wire := s.wire ++ [.byte b, .csRelease], busPtr := 1, busRem := 0, busActive := false, cs := false }) ∧
    (commandStaged b s = false → exec i s = .refused .commandNotStaged)

/-- R48, R300 (D14, D20, D27): the values power-up fixes, for every configuration and whatever it leaves
unspecified. -/
def Obligations.PowerUpValues : Prop :=
  ∀ (cfg : Config) (u : PowerUp),
    let s := State.powerUp cfg u
    s.mf = .idle ∧ s.mf.step = 0 ∧ s.resStatus = 0 ∧ s.busy = false ∧ s.timedOut = false ∧ s.adcEnable = false ∧
    s.adcConv = false ∧ s.irqAdc = false ∧ s.toArmed = false ∧ s.battPrev = none ∧ s.busActive = false ∧
    s.cs = false ∧ s.refConfigured = false ∧ s.fabricChEn = false ∧ s.timerIntenCmp = false ∧ s.irqCmp = false ∧
    s.gpioMode = .off ∧ s.wire = [] ∧ s.cancels = 0 ∧ s.cancelCalls = 0 ∧ s.toggles = 0 ∧
    ∀ p, p ≤ 95 → s.fbByte p 0 = BitVec.ofNat 8 (p + 1) ∧ s.fbByte p 13 = 0

/-- R97, R98, R104, R281 (D1): the host's port writes leave the command's word in `CW` waiting to be taken, decoding
to the command's operation, and its operands in `ARGW` and `PAY`; nothing else changes. -/
def Obligations.HostIssuesCommand : Prop :=
  ∀ (s : State) (c : Command) (ms : List Move), inv s = true → hostEnabled s = true → c.moves = some ms →
    ∃ t, runMoves ms s = .next t ∧ t.cwWritten = true ∧ decode t.cw = .ok c.instr.canonical ∧
      (∀ v, c.argw = some v → t.argw = v) ∧ (∀ bytes, c.payload = some bytes → t.payload = bytes) ∧
      (c.argw = none → t.argw = s.argw) ∧ (c.payload = none → t.pay = s.pay ∧ t.payLen = s.payLen) ∧
      t = { s with cw := t.cw, cwWritten := true, argw := t.argw, pay := t.pay, payLen := t.payLen }

/-- R263 (D31) and R100(b) (log 14): an operation whose fields lie outside the operand columns of the opcode table is
refused when its rule runs; an operation executed while the main flow is in another one is refused. -/
def Obligations.OperationRefusals : Prop :=
  ∀ (i : Instr) (s : State),
    (i.wf = false → s.mf = .idle → exec i s = .refused .operandRange) ∧
    (isOneStep i = true → s.mf ≠ .idle → exec i s = .refused .mainFlowBusy) ∧
    (s.mf.op = some "FLUSH_RANGE" ∨ s.mf.op = some "WAIT_IDLE" → exec .sample s = .refused .mainFlowBusy) ∧
    (s.mf.op = some "SAMPLE" ∨ s.mf.op = some "FLUSH_RANGE" → exec .waitIdle s = .refused .mainFlowBusy) ∧
    (s.mf.op = some "SAMPLE" ∨ s.mf.op = some "WAIT_IDLE" →
      exec .flushAll s = .refused .mainFlowBusy ∧
      ∀ a b : Byte, a.toNat < b.toNat → b.toNat ≤ 96 → exec (.flushRange a b) s = .refused .mainFlowBusy)
end

