-- ==== Sys2Proof/Laws/Board.lean ====
section
/-! SUPPORT. Reading the font spaces by address (R61). -/

namespace Sys2Proof

/-- Glyph `g`, row `r` of a font space stands at `8*g + r` (R61). -/
theorem Config.fontByte_row (cfg : Config) (sp : FontSpace) (g : Nat) {r : Nat} (hr : r < 8) :
    cfg.fontByte sp (8 * g + r) = (cfg.font[g]?).map fun x => (x.table sp)[r] := by
  simp only [fontByte, show (8 * g + r) / 8 = g by omega, show (8 * g + r) % 8 = r by omega]

/-- A font space has exactly the addresses below its size (R61). -/
theorem Config.fontByte_isSome (cfg : Config) (sp : FontSpace) (a : Nat) :
    (cfg.fontByte sp a).isSome = true ↔ a < cfg.fontSize := by
  rw [fontByte, Option.isSome_map, Option.isSome_iff_ne_none, ne_eq, List.getElem?_eq_none_iff, fontSize]
  omega

/-- Reading the eight bytes of glyph `g` by address gives its rows (R61). -/
theorem Config.fontBytes_glyph (cfg : Config) (sp : FontSpace) (g : Nat) :
    cfg.fontBytes sp (8 * g) 8 = (cfg.font[g]?).map fun x => (x.table sp).toList := by
  simp only [fontBytes, Nat.add_assoc, Nat.reduceAdd]
  rw [show cfg.fontByte sp (8 * g) = _ from cfg.fontByte_row sp g (r := 0) (by decide)]
  simp only [cfg.fontByte_row sp g (show (1 : Nat) < 8 by decide), cfg.fontByte_row sp g (show (2 : Nat) < 8 by decide),
    cfg.fontByte_row sp g (show (3 : Nat) < 8 by decide), cfg.fontByte_row sp g (show (4 : Nat) < 8 by decide),
    cfg.fontByte_row sp g (show (5 : Nat) < 8 by decide), cfg.fontByte_row sp g (show (6 : Nat) < 8 by decide),
    cfg.fontByte_row sp g (show (7 : Nat) < 8 by decide)]
  cases cfg.font[g]? with
  | none => rfl
  | some x =>
    simp only [Option.map_some, Option.some.injEq]
    apply List.ext_getElem (by simp)
    intro i h1 h2
    simp only [List.length_cons, List.length_nil] at h1
    interval_cases i <;> rfl

/-- What WRITE_TEXT reads for a text byte is its glyph's rows (R171). -/
theorem Config.glyphBytes_eq (cfg : Config) (inverted : Bool) (c : Byte) :
    cfg.glyphBytes inverted c = (cfg.glyphOf c).map fun g => (g.rows inverted).toList := by
  unfold glyphBytes glyphOf
  split
  · exact cfg.fontBytes_glyph _ _
  · rfl

end Sys2Proof
end

