-- ==== Sys2Proof/Laws/Decode.lean ====
section
/-! SUPPORT. The fields of a command word built from fields (R97). -/

namespace Sys2Proof

/-- Which field a bit of a command word belongs to (R97). -/
theorem cmdWord_getLsbD (o a b : Byte) (inv : Bool) (i : Nat) :
    (cmdWord o a b inv).getLsbD i =
      if i < 8 then o.getLsbD i else if i < 16 then a.getLsbD (i - 8) else if i < 24 then b.getLsbD (i - 16)
      else if i = 24 then inv else false := by
  show BitVec.getLsbD (w := 7 + 1 + 8 + 8 + 8) (0#7 ++ BitVec.ofBool inv ++ b ++ a ++ o) i = _
  simp only [BitVec.getLsbD_append, BitVec.getLsbD_zero, BitVec.getLsbD_ofBool]
  by_cases h1 : i < 8
  · simp [h1]
  · by_cases h2 : i < 16
    · simp [h1, h2, show i - 8 < 8 by omega]
    · by_cases h3 : i < 24
      · simp [h1, h2, h3, show ¬ i - 8 < 8 by omega, show i - 8 - 8 = i - 16 by omega, show i - 16 < 8 by omega]
      · by_cases h4 : i = 24
        · subst h4; simp
        · simp [h1, h2, h3, h4, show ¬ i - 8 < 8 by omega, show ¬ i - 8 - 8 < 8 by omega,
            show ¬ i - 8 - 8 - 8 = 0 by omega]

@[simp] theorem cwOpsel_cmdWord (o a b : Byte) (inv : Bool) : cwOpsel (cmdWord o a b inv) = o := by
  apply BitVec.eq_of_getLsbD_eq; intro i hi
  rw [cwOpsel, BitVec.getLsbD_extractLsb', cmdWord_getLsbD]
  simp [hi]

@[simp] theorem cwA_cmdWord (o a b : Byte) (inv : Bool) : cwA (cmdWord o a b inv) = a := by
  apply BitVec.eq_of_getLsbD_eq; intro i hi
  rw [cwA, BitVec.getLsbD_extractLsb', cmdWord_getLsbD]
  simp [hi, show 8 + i < 16 by omega]

@[simp] theorem cwB_cmdWord (o a b : Byte) (inv : Bool) : cwB (cmdWord o a b inv) = b := by
  apply BitVec.eq_of_getLsbD_eq; intro i hi
  rw [cwB, BitVec.getLsbD_extractLsb', cmdWord_getLsbD]
  simp [hi, show ¬ 16 + i < 8 by omega, show 16 + i < 24 by omega]

@[simp] theorem cwInv_cmdWord (o a b : Byte) (inv : Bool) : cwInv (cmdWord o a b inv) = inv := by
  rw [cwInv, cmdWord_getLsbD]
  simp

@[simp] theorem cwZero_cmdWord (o a b : Byte) (inv : Bool) : cwZero (cmdWord o a b inv) = 0 := by
  apply BitVec.eq_of_getLsbD_eq; intro i hi
  rw [cwZero, BitVec.getLsbD_extractLsb', cmdWord_getLsbD]
  simp [show ¬ 25 + i < 8 by omega, show ¬ 25 + i < 16 by omega, show ¬ 25 + i < 24 by omega,
    show ¬ 25 + i = 24 by omega]

/-- A word whose `ZERO` field is 0 is the word of its other fields (R97). -/
theorem cmdWord_fields {w : Word} (h : cwZero w = 0) : cmdWord (cwOpsel w) (cwA w) (cwB w) (cwInv w) = w := by
  apply BitVec.eq_of_getLsbD_eq
  intro i hi
  rw [cmdWord_getLsbD, cwOpsel, cwA, cwB, cwInv]
  simp only [BitVec.getLsbD_extractLsb']
  split
  · next h1 => simp [h1]
  · split
    · next h2 => simp [show i - 8 < 8 by omega, show 8 + (i - 8) = i by omega]
    · split
      · next h3 => simp [show i - 16 < 8 by omega, show 16 + (i - 16) = i by omega]
      · split
        · next h4 => simp [h4]
        · have h5 : (cwZero w).getLsbD (i - 25) = false := by rw [h]; simp
          rw [cwZero, BitVec.getLsbD_extractLsb', show 25 + (i - 25) = i by omega] at h5
          simpa [show i - 25 < 7 by omega] using h5.symm

end Sys2Proof
end

