-- ==== Sys2Proof/Laws/State.lean ====
section
/-! SUPPORT. One lemma per field per named update of the state. -/

namespace Sys2Proof.Machine

section
variable (s : State) (cells : List Host.Cell)

@[simp] theorem State.storeFb_cfg : (s.storeFb cells).cfg = s.cfg := rfl
@[simp] theorem State.storeFb_cw : (s.storeFb cells).cw = s.cw := rfl
@[simp] theorem State.storeFb_cwWritten : (s.storeFb cells).cwWritten = s.cwWritten := rfl
@[simp] theorem State.storeFb_argw : (s.storeFb cells).argw = s.argw := rfl
@[simp] theorem State.storeFb_pay : (s.storeFb cells).pay = s.pay := rfl
@[simp] theorem State.storeFb_payLen : (s.storeFb cells).payLen = s.payLen := rfl
@[simp] theorem State.storeFb_resStatus : (s.storeFb cells).resStatus = s.resStatus := rfl
@[simp] theorem State.storeFb_resValue : (s.storeFb cells).resValue = s.resValue := rfl
@[simp] theorem State.storeFb_mf : (s.storeFb cells).mf = s.mf := rfl
@[simp] theorem State.storeFb_busy : (s.storeFb cells).busy = s.busy := rfl
@[simp] theorem State.storeFb_timedOut : (s.storeFb cells).timedOut = s.timedOut := rfl
@[simp] theorem State.storeFb_adcEnable : (s.storeFb cells).adcEnable = s.adcEnable := rfl
@[simp] theorem State.storeFb_adcConfig : (s.storeFb cells).adcConfig = s.adcConfig := rfl
@[simp] theorem State.storeFb_adcResult : (s.storeFb cells).adcResult = s.adcResult := rfl
@[simp] theorem State.storeFb_adcConv : (s.storeFb cells).adcConv = s.adcConv := rfl
@[simp] theorem State.storeFb_irqAdc : (s.storeFb cells).irqAdc = s.irqAdc := rfl
@[simp] theorem State.storeFb_toArmed : (s.storeFb cells).toArmed = s.toArmed := rfl
@[simp] theorem State.storeFb_toTicks : (s.storeFb cells).toTicks = s.toTicks := rfl
@[simp] theorem State.storeFb_dest : (s.storeFb cells).dest = s.dest := rfl
@[simp] theorem State.storeFb_fb : (s.storeFb cells).fb = Memory.writeAll .fb s.fb cells := rfl
@[simp] theorem State.storeFb_scratch : (s.storeFb cells).scratch = s.scratch := rfl
@[simp] theorem State.storeFb_battPrev : (s.storeFb cells).battPrev = s.battPrev := rfl
@[simp] theorem State.storeFb_busActive : (s.storeFb cells).busActive = s.busActive := rfl
@[simp] theorem State.storeFb_busSrc : (s.storeFb cells).busSrc = s.busSrc := rfl
@[simp] theorem State.storeFb_busPtr : (s.storeFb cells).busPtr = s.busPtr := rfl
@[simp] theorem State.storeFb_busRem : (s.storeFb cells).busRem = s.busRem := rfl
@[simp] theorem State.storeFb_busMode : (s.storeFb cells).busMode = s.busMode := rfl
@[simp] theorem State.storeFb_cs : (s.storeFb cells).cs = s.cs := rfl
@[simp] theorem State.storeFb_refConfigured : (s.storeFb cells).refConfigured = s.refConfigured := rfl
@[simp] theorem State.storeFb_vcomPin : (s.storeFb cells).vcomPin = s.vcomPin := rfl
@[simp] theorem State.storeFb_timerCnt : (s.storeFb cells).timerCnt = s.timerCnt := rfl
@[simp] theorem State.storeFb_timerCc : (s.storeFb cells).timerCc = s.timerCc := rfl
@[simp] theorem State.storeFb_timerIntenCmp : (s.storeFb cells).timerIntenCmp = s.timerIntenCmp := rfl
@[simp] theorem State.storeFb_fabricChEn : (s.storeFb cells).fabricChEn = s.fabricChEn := rfl
@[simp] theorem State.storeFb_gpioMode : (s.storeFb cells).gpioMode = s.gpioMode := rfl
@[simp] theorem State.storeFb_irqCmp : (s.storeFb cells).irqCmp = s.irqCmp := rfl
@[simp] theorem State.storeFb_wire : (s.storeFb cells).wire = s.wire := rfl
@[simp] theorem State.storeFb_cancels : (s.storeFb cells).cancels = s.cancels := rfl
@[simp] theorem State.storeFb_cancelCalls : (s.storeFb cells).cancelCalls = s.cancelCalls := rfl
@[simp] theorem State.storeFb_toggles : (s.storeFb cells).toggles = s.toggles := rfl
@[simp] theorem State.storeFb_agenda : (s.storeFb cells).agenda = s.agenda := rfl
@[simp] theorem State.storeFb_draws : (s.storeFb cells).draws = s.draws := rfl

end

section
variable (s : State) (bytes : List Byte)

@[simp] theorem State.stage_cfg : (s.stage bytes).cfg = s.cfg := rfl
@[simp] theorem State.stage_cw : (s.stage bytes).cw = s.cw := rfl
@[simp] theorem State.stage_cwWritten : (s.stage bytes).cwWritten = s.cwWritten := rfl
@[simp] theorem State.stage_argw : (s.stage bytes).argw = s.argw := rfl
@[simp] theorem State.stage_pay : (s.stage bytes).pay = s.pay := rfl
@[simp] theorem State.stage_payLen : (s.stage bytes).payLen = s.payLen := rfl
@[simp] theorem State.stage_resStatus : (s.stage bytes).resStatus = s.resStatus := rfl
@[simp] theorem State.stage_resValue : (s.stage bytes).resValue = s.resValue := rfl
@[simp] theorem State.stage_mf : (s.stage bytes).mf = s.mf := rfl
@[simp] theorem State.stage_busy : (s.stage bytes).busy = s.busy := rfl
@[simp] theorem State.stage_timedOut : (s.stage bytes).timedOut = s.timedOut := rfl
@[simp] theorem State.stage_adcEnable : (s.stage bytes).adcEnable = s.adcEnable := rfl
@[simp] theorem State.stage_adcConfig : (s.stage bytes).adcConfig = s.adcConfig := rfl
@[simp] theorem State.stage_adcResult : (s.stage bytes).adcResult = s.adcResult := rfl
@[simp] theorem State.stage_adcConv : (s.stage bytes).adcConv = s.adcConv := rfl
@[simp] theorem State.stage_irqAdc : (s.stage bytes).irqAdc = s.irqAdc := rfl
@[simp] theorem State.stage_toArmed : (s.stage bytes).toArmed = s.toArmed := rfl
@[simp] theorem State.stage_toTicks : (s.stage bytes).toTicks = s.toTicks := rfl
@[simp] theorem State.stage_dest : (s.stage bytes).dest = s.dest := rfl
@[simp] theorem State.stage_fb : (s.stage bytes).fb = s.fb := rfl
@[simp] theorem State.stage_scratch : (s.stage bytes).scratch = Memory.writeAll .scratch s.scratch (cellsFrom 0 bytes) := rfl
@[simp] theorem State.stage_battPrev : (s.stage bytes).battPrev = s.battPrev := rfl
@[simp] theorem State.stage_busActive : (s.stage bytes).busActive = s.busActive := rfl
@[simp] theorem State.stage_busSrc : (s.stage bytes).busSrc = s.busSrc := rfl
@[simp] theorem State.stage_busPtr : (s.stage bytes).busPtr = s.busPtr := rfl
@[simp] theorem State.stage_busRem : (s.stage bytes).busRem = s.busRem := rfl
@[simp] theorem State.stage_busMode : (s.stage bytes).busMode = s.busMode := rfl
@[simp] theorem State.stage_cs : (s.stage bytes).cs = s.cs := rfl
@[simp] theorem State.stage_refConfigured : (s.stage bytes).refConfigured = s.refConfigured := rfl
@[simp] theorem State.stage_vcomPin : (s.stage bytes).vcomPin = s.vcomPin := rfl
@[simp] theorem State.stage_timerCnt : (s.stage bytes).timerCnt = s.timerCnt := rfl
@[simp] theorem State.stage_timerCc : (s.stage bytes).timerCc = s.timerCc := rfl
@[simp] theorem State.stage_timerIntenCmp : (s.stage bytes).timerIntenCmp = s.timerIntenCmp := rfl
@[simp] theorem State.stage_fabricChEn : (s.stage bytes).fabricChEn = s.fabricChEn := rfl
@[simp] theorem State.stage_gpioMode : (s.stage bytes).gpioMode = s.gpioMode := rfl
@[simp] theorem State.stage_irqCmp : (s.stage bytes).irqCmp = s.irqCmp := rfl
@[simp] theorem State.stage_wire : (s.stage bytes).wire = s.wire := rfl
@[simp] theorem State.stage_cancels : (s.stage bytes).cancels = s.cancels := rfl
@[simp] theorem State.stage_cancelCalls : (s.stage bytes).cancelCalls = s.cancelCalls := rfl
@[simp] theorem State.stage_toggles : (s.stage bytes).toggles = s.toggles := rfl
@[simp] theorem State.stage_agenda : (s.stage bytes).agenda = s.agenda := rfl
@[simp] theorem State.stage_draws : (s.stage bytes).draws = s.draws := rfl

end

section
variable (s : State) 

@[simp] theorem State.finish_cfg : (s.finish).cfg = s.cfg := rfl
@[simp] theorem State.finish_cw : (s.finish).cw = s.cw := rfl
@[simp] theorem State.finish_cwWritten : (s.finish).cwWritten = s.cwWritten := rfl
@[simp] theorem State.finish_argw : (s.finish).argw = s.argw := rfl
@[simp] theorem State.finish_pay : (s.finish).pay = s.pay := rfl
@[simp] theorem State.finish_payLen : (s.finish).payLen = s.payLen := rfl
@[simp] theorem State.finish_resStatus : (s.finish).resStatus = 0 := rfl
@[simp] theorem State.finish_resValue : (s.finish).resValue = s.resValue := rfl
@[simp] theorem State.finish_mf : (s.finish).mf = .idle := rfl
@[simp] theorem State.finish_busy : (s.finish).busy = s.busy := rfl
@[simp] theorem State.finish_timedOut : (s.finish).timedOut = s.timedOut := rfl
@[simp] theorem State.finish_adcEnable : (s.finish).adcEnable = s.adcEnable := rfl
@[simp] theorem State.finish_adcConfig : (s.finish).adcConfig = s.adcConfig := rfl
@[simp] theorem State.finish_adcResult : (s.finish).adcResult = s.adcResult := rfl
@[simp] theorem State.finish_adcConv : (s.finish).adcConv = s.adcConv := rfl
@[simp] theorem State.finish_irqAdc : (s.finish).irqAdc = s.irqAdc := rfl
@[simp] theorem State.finish_toArmed : (s.finish).toArmed = s.toArmed := rfl
@[simp] theorem State.finish_toTicks : (s.finish).toTicks = s.toTicks := rfl
@[simp] theorem State.finish_dest : (s.finish).dest = s.dest := rfl
@[simp] theorem State.finish_fb : (s.finish).fb = s.fb := rfl
@[simp] theorem State.finish_scratch : (s.finish).scratch = s.scratch := rfl
@[simp] theorem State.finish_battPrev : (s.finish).battPrev = s.battPrev := rfl
@[simp] theorem State.finish_busActive : (s.finish).busActive = s.busActive := rfl
@[simp] theorem State.finish_busSrc : (s.finish).busSrc = s.busSrc := rfl
@[simp] theorem State.finish_busPtr : (s.finish).busPtr = s.busPtr := rfl
@[simp] theorem State.finish_busRem : (s.finish).busRem = s.busRem := rfl
@[simp] theorem State.finish_busMode : (s.finish).busMode = s.busMode := rfl
@[simp] theorem State.finish_cs : (s.finish).cs = s.cs := rfl
@[simp] theorem State.finish_refConfigured : (s.finish).refConfigured = s.refConfigured := rfl
@[simp] theorem State.finish_vcomPin : (s.finish).vcomPin = s.vcomPin := rfl
@[simp] theorem State.finish_timerCnt : (s.finish).timerCnt = s.timerCnt := rfl
@[simp] theorem State.finish_timerCc : (s.finish).timerCc = s.timerCc := rfl
@[simp] theorem State.finish_timerIntenCmp : (s.finish).timerIntenCmp = s.timerIntenCmp := rfl
@[simp] theorem State.finish_fabricChEn : (s.finish).fabricChEn = s.fabricChEn := rfl
@[simp] theorem State.finish_gpioMode : (s.finish).gpioMode = s.gpioMode := rfl
@[simp] theorem State.finish_irqCmp : (s.finish).irqCmp = s.irqCmp := rfl
@[simp] theorem State.finish_wire : (s.finish).wire = s.wire := rfl
@[simp] theorem State.finish_cancels : (s.finish).cancels = s.cancels := rfl
@[simp] theorem State.finish_cancelCalls : (s.finish).cancelCalls = s.cancelCalls := rfl
@[simp] theorem State.finish_toggles : (s.finish).toggles = s.toggles := rfl
@[simp] theorem State.finish_agenda : (s.finish).agenda = s.agenda := rfl
@[simp] theorem State.finish_draws : (s.finish).draws = s.draws := rfl

end

section
variable (s : State) (es : List WireEvent)

@[simp] theorem State.emit_cfg : (s.emit es).cfg = s.cfg := rfl
@[simp] theorem State.emit_cw : (s.emit es).cw = s.cw := rfl
@[simp] theorem State.emit_cwWritten : (s.emit es).cwWritten = s.cwWritten := rfl
@[simp] theorem State.emit_argw : (s.emit es).argw = s.argw := rfl
@[simp] theorem State.emit_pay : (s.emit es).pay = s.pay := rfl
@[simp] theorem State.emit_payLen : (s.emit es).payLen = s.payLen := rfl
@[simp] theorem State.emit_resStatus : (s.emit es).resStatus = s.resStatus := rfl
@[simp] theorem State.emit_resValue : (s.emit es).resValue = s.resValue := rfl
@[simp] theorem State.emit_mf : (s.emit es).mf = s.mf := rfl
@[simp] theorem State.emit_busy : (s.emit es).busy = s.busy := rfl
@[simp] theorem State.emit_timedOut : (s.emit es).timedOut = s.timedOut := rfl
@[simp] theorem State.emit_adcEnable : (s.emit es).adcEnable = s.adcEnable := rfl
@[simp] theorem State.emit_adcConfig : (s.emit es).adcConfig = s.adcConfig := rfl
@[simp] theorem State.emit_adcResult : (s.emit es).adcResult = s.adcResult := rfl
@[simp] theorem State.emit_adcConv : (s.emit es).adcConv = s.adcConv := rfl
@[simp] theorem State.emit_irqAdc : (s.emit es).irqAdc = s.irqAdc := rfl
@[simp] theorem State.emit_toArmed : (s.emit es).toArmed = s.toArmed := rfl
@[simp] theorem State.emit_toTicks : (s.emit es).toTicks = s.toTicks := rfl
@[simp] theorem State.emit_dest : (s.emit es).dest = s.dest := rfl
@[simp] theorem State.emit_fb : (s.emit es).fb = s.fb := rfl
@[simp] theorem State.emit_scratch : (s.emit es).scratch = s.scratch := rfl
@[simp] theorem State.emit_battPrev : (s.emit es).battPrev = s.battPrev := rfl
@[simp] theorem State.emit_busActive : (s.emit es).busActive = s.busActive := rfl
@[simp] theorem State.emit_busSrc : (s.emit es).busSrc = s.busSrc := rfl
@[simp] theorem State.emit_busPtr : (s.emit es).busPtr = s.busPtr := rfl
@[simp] theorem State.emit_busRem : (s.emit es).busRem = s.busRem := rfl
@[simp] theorem State.emit_busMode : (s.emit es).busMode = s.busMode := rfl
@[simp] theorem State.emit_cs : (s.emit es).cs = s.cs := rfl
@[simp] theorem State.emit_refConfigured : (s.emit es).refConfigured = s.refConfigured := rfl
@[simp] theorem State.emit_vcomPin : (s.emit es).vcomPin = s.vcomPin := rfl
@[simp] theorem State.emit_timerCnt : (s.emit es).timerCnt = s.timerCnt := rfl
@[simp] theorem State.emit_timerCc : (s.emit es).timerCc = s.timerCc := rfl
@[simp] theorem State.emit_timerIntenCmp : (s.emit es).timerIntenCmp = s.timerIntenCmp := rfl
@[simp] theorem State.emit_fabricChEn : (s.emit es).fabricChEn = s.fabricChEn := rfl
@[simp] theorem State.emit_gpioMode : (s.emit es).gpioMode = s.gpioMode := rfl
@[simp] theorem State.emit_irqCmp : (s.emit es).irqCmp = s.irqCmp := rfl
@[simp] theorem State.emit_wire : (s.emit es).wire = s.wire ++ es := rfl
@[simp] theorem State.emit_cancels : (s.emit es).cancels = s.cancels := rfl
@[simp] theorem State.emit_cancelCalls : (s.emit es).cancelCalls = s.cancelCalls := rfl
@[simp] theorem State.emit_toggles : (s.emit es).toggles = s.toggles := rfl
@[simp] theorem State.emit_agenda : (s.emit es).agenda = s.agenda := rfl
@[simp] theorem State.emit_draws : (s.emit es).draws = s.draws := rfl

end

section
variable (s : State) 

@[simp] theorem State.assertCs_cfg : (s.assertCs).cfg = s.cfg := by unfold State.assertCs; split <;> rfl
@[simp] theorem State.assertCs_cw : (s.assertCs).cw = s.cw := by unfold State.assertCs; split <;> rfl
@[simp] theorem State.assertCs_cwWritten : (s.assertCs).cwWritten = s.cwWritten := by unfold State.assertCs; split <;> rfl
@[simp] theorem State.assertCs_argw : (s.assertCs).argw = s.argw := by unfold State.assertCs; split <;> rfl
@[simp] theorem State.assertCs_pay : (s.assertCs).pay = s.pay := by unfold State.assertCs; split <;> rfl
@[simp] theorem State.assertCs_payLen : (s.assertCs).payLen = s.payLen := by unfold State.assertCs; split <;> rfl
@[simp] theorem State.assertCs_resStatus : (s.assertCs).resStatus = s.resStatus := by unfold State.assertCs; split <;> rfl
@[simp] theorem State.assertCs_resValue : (s.assertCs).resValue = s.resValue := by unfold State.assertCs; split <;> rfl
@[simp] theorem State.assertCs_mf : (s.assertCs).mf = s.mf := by unfold State.assertCs; split <;> rfl
@[simp] theorem State.assertCs_busy : (s.assertCs).busy = s.busy := by unfold State.assertCs; split <;> rfl
@[simp] theorem State.assertCs_timedOut : (s.assertCs).timedOut = s.timedOut := by unfold State.assertCs; split <;> rfl
@[simp] theorem State.assertCs_adcEnable : (s.assertCs).adcEnable = s.adcEnable := by unfold State.assertCs; split <;> rfl
@[simp] theorem State.assertCs_adcConfig : (s.assertCs).adcConfig = s.adcConfig := by unfold State.assertCs; split <;> rfl
@[simp] theorem State.assertCs_adcResult : (s.assertCs).adcResult = s.adcResult := by unfold State.assertCs; split <;> rfl
@[simp] theorem State.assertCs_adcConv : (s.assertCs).adcConv = s.adcConv := by unfold State.assertCs; split <;> rfl
@[simp] theorem State.assertCs_irqAdc : (s.assertCs).irqAdc = s.irqAdc := by unfold State.assertCs; split <;> rfl
@[simp] theorem State.assertCs_toArmed : (s.assertCs).toArmed = s.toArmed := by unfold State.assertCs; split <;> rfl
@[simp] theorem State.assertCs_toTicks : (s.assertCs).toTicks = s.toTicks := by unfold State.assertCs; split <;> rfl
@[simp] theorem State.assertCs_dest : (s.assertCs).dest = s.dest := by unfold State.assertCs; split <;> rfl
@[simp] theorem State.assertCs_fb : (s.assertCs).fb = s.fb := by unfold State.assertCs; split <;> rfl
@[simp] theorem State.assertCs_scratch : (s.assertCs).scratch = s.scratch := by unfold State.assertCs; split <;> rfl
@[simp] theorem State.assertCs_battPrev : (s.assertCs).battPrev = s.battPrev := by unfold State.assertCs; split <;> rfl
@[simp] theorem State.assertCs_busActive : (s.assertCs).busActive = s.busActive := by unfold State.assertCs; split <;> rfl
@[simp] theorem State.assertCs_busSrc : (s.assertCs).busSrc = s.busSrc := by unfold State.assertCs; split <;> rfl
@[simp] theorem State.assertCs_busPtr : (s.assertCs).busPtr = s.busPtr := by unfold State.assertCs; split <;> rfl
@[simp] theorem State.assertCs_busRem : (s.assertCs).busRem = s.busRem := by unfold State.assertCs; split <;> rfl
@[simp] theorem State.assertCs_busMode : (s.assertCs).busMode = s.busMode := by unfold State.assertCs; split <;> rfl
@[simp] theorem State.assertCs_cs : (s.assertCs).cs = true := by unfold State.assertCs; split <;> simp_all
@[simp] theorem State.assertCs_refConfigured : (s.assertCs).refConfigured = s.refConfigured := by unfold State.assertCs; split <;> rfl
@[simp] theorem State.assertCs_vcomPin : (s.assertCs).vcomPin = s.vcomPin := by unfold State.assertCs; split <;> rfl
@[simp] theorem State.assertCs_timerCnt : (s.assertCs).timerCnt = s.timerCnt := by unfold State.assertCs; split <;> rfl
@[simp] theorem State.assertCs_timerCc : (s.assertCs).timerCc = s.timerCc := by unfold State.assertCs; split <;> rfl
@[simp] theorem State.assertCs_timerIntenCmp : (s.assertCs).timerIntenCmp = s.timerIntenCmp := by unfold State.assertCs; split <;> rfl
@[simp] theorem State.assertCs_fabricChEn : (s.assertCs).fabricChEn = s.fabricChEn := by unfold State.assertCs; split <;> rfl
@[simp] theorem State.assertCs_gpioMode : (s.assertCs).gpioMode = s.gpioMode := by unfold State.assertCs; split <;> rfl
@[simp] theorem State.assertCs_irqCmp : (s.assertCs).irqCmp = s.irqCmp := by unfold State.assertCs; split <;> rfl
@[simp] theorem State.assertCs_wire : (s.assertCs).wire = if s.cs then s.wire else s.wire ++ [.csAssert] := by unfold State.assertCs; split <;> simp_all [State.emit]
@[simp] theorem State.assertCs_cancels : (s.assertCs).cancels = s.cancels := by unfold State.assertCs; split <;> rfl
@[simp] theorem State.assertCs_cancelCalls : (s.assertCs).cancelCalls = s.cancelCalls := by unfold State.assertCs; split <;> rfl
@[simp] theorem State.assertCs_toggles : (s.assertCs).toggles = s.toggles := by unfold State.assertCs; split <;> rfl
@[simp] theorem State.assertCs_agenda : (s.assertCs).agenda = s.agenda := by unfold State.assertCs; split <;> rfl
@[simp] theorem State.assertCs_draws : (s.assertCs).draws = s.draws := by unfold State.assertCs; split <;> rfl

end

section
variable (s : State) 

@[simp] theorem State.endSegment_cfg : (s.endSegment).cfg = s.cfg := by unfold State.endSegment; split <;> rfl
@[simp] theorem State.endSegment_cw : (s.endSegment).cw = s.cw := by unfold State.endSegment; split <;> rfl
@[simp] theorem State.endSegment_cwWritten : (s.endSegment).cwWritten = s.cwWritten := by unfold State.endSegment; split <;> rfl
@[simp] theorem State.endSegment_argw : (s.endSegment).argw = s.argw := by unfold State.endSegment; split <;> rfl
@[simp] theorem State.endSegment_pay : (s.endSegment).pay = s.pay := by unfold State.endSegment; split <;> rfl
@[simp] theorem State.endSegment_payLen : (s.endSegment).payLen = s.payLen := by unfold State.endSegment; split <;> rfl
@[simp] theorem State.endSegment_resStatus : (s.endSegment).resStatus = s.resStatus := by unfold State.endSegment; split <;> rfl
@[simp] theorem State.endSegment_resValue : (s.endSegment).resValue = s.resValue := by unfold State.endSegment; split <;> rfl
@[simp] theorem State.endSegment_mf : (s.endSegment).mf = s.mf := by unfold State.endSegment; split <;> rfl
@[simp] theorem State.endSegment_busy : (s.endSegment).busy = s.busy := by unfold State.endSegment; split <;> rfl
@[simp] theorem State.endSegment_timedOut : (s.endSegment).timedOut = s.timedOut := by unfold State.endSegment; split <;> rfl
@[simp] theorem State.endSegment_adcEnable : (s.endSegment).adcEnable = s.adcEnable := by unfold State.endSegment; split <;> rfl
@[simp] theorem State.endSegment_adcConfig : (s.endSegment).adcConfig = s.adcConfig := by unfold State.endSegment; split <;> rfl
@[simp] theorem State.endSegment_adcResult : (s.endSegment).adcResult = s.adcResult := by unfold State.endSegment; split <;> rfl
@[simp] theorem State.endSegment_adcConv : (s.endSegment).adcConv = s.adcConv := by unfold State.endSegment; split <;> rfl
@[simp] theorem State.endSegment_irqAdc : (s.endSegment).irqAdc = s.irqAdc := by unfold State.endSegment; split <;> rfl
@[simp] theorem State.endSegment_toArmed : (s.endSegment).toArmed = s.toArmed := by unfold State.endSegment; split <;> rfl
@[simp] theorem State.endSegment_toTicks : (s.endSegment).toTicks = s.toTicks := by unfold State.endSegment; split <;> rfl
@[simp] theorem State.endSegment_dest : (s.endSegment).dest = s.dest := by unfold State.endSegment; split <;> rfl
@[simp] theorem State.endSegment_fb : (s.endSegment).fb = s.fb := by unfold State.endSegment; split <;> rfl
@[simp] theorem State.endSegment_scratch : (s.endSegment).scratch = s.scratch := by unfold State.endSegment; split <;> rfl
@[simp] theorem State.endSegment_battPrev : (s.endSegment).battPrev = s.battPrev := by unfold State.endSegment; split <;> rfl
@[simp] theorem State.endSegment_busActive : (s.endSegment).busActive = false := by unfold State.endSegment; split <;> simp_all
@[simp] theorem State.endSegment_busSrc : (s.endSegment).busSrc = s.busSrc := by unfold State.endSegment; split <;> rfl
@[simp] theorem State.endSegment_busPtr : (s.endSegment).busPtr = s.busPtr := by unfold State.endSegment; split <;> rfl
@[simp] theorem State.endSegment_busRem : (s.endSegment).busRem = s.busRem := by unfold State.endSegment; split <;> rfl
@[simp] theorem State.endSegment_busMode : (s.endSegment).busMode = s.busMode := by unfold State.endSegment; split <;> rfl
@[simp] theorem State.endSegment_cs : (s.endSegment).cs = if s.busMode = .auto then false else s.cs := by unfold State.endSegment; split <;> simp_all
@[simp] theorem State.endSegment_refConfigured : (s.endSegment).refConfigured = s.refConfigured := by unfold State.endSegment; split <;> rfl
@[simp] theorem State.endSegment_vcomPin : (s.endSegment).vcomPin = s.vcomPin := by unfold State.endSegment; split <;> rfl
@[simp] theorem State.endSegment_timerCnt : (s.endSegment).timerCnt = s.timerCnt := by unfold State.endSegment; split <;> rfl
@[simp] theorem State.endSegment_timerCc : (s.endSegment).timerCc = s.timerCc := by unfold State.endSegment; split <;> rfl
@[simp] theorem State.endSegment_timerIntenCmp : (s.endSegment).timerIntenCmp = s.timerIntenCmp := by unfold State.endSegment; split <;> rfl
@[simp] theorem State.endSegment_fabricChEn : (s.endSegment).fabricChEn = s.fabricChEn := by unfold State.endSegment; split <;> rfl
@[simp] theorem State.endSegment_gpioMode : (s.endSegment).gpioMode = s.gpioMode := by unfold State.endSegment; split <;> rfl
@[simp] theorem State.endSegment_irqCmp : (s.endSegment).irqCmp = s.irqCmp := by unfold State.endSegment; split <;> rfl
@[simp] theorem State.endSegment_wire : (s.endSegment).wire = if s.busMode = .auto then s.wire ++ [.csRelease] else s.wire := by unfold State.endSegment; split <;> simp_all [State.emit]
@[simp] theorem State.endSegment_cancels : (s.endSegment).cancels = s.cancels := by unfold State.endSegment; split <;> rfl
@[simp] theorem State.endSegment_cancelCalls : (s.endSegment).cancelCalls = s.cancelCalls := by unfold State.endSegment; split <;> rfl
@[simp] theorem State.endSegment_toggles : (s.endSegment).toggles = s.toggles := by unfold State.endSegment; split <;> rfl
@[simp] theorem State.endSegment_agenda : (s.endSegment).agenda = s.agenda := by unfold State.endSegment; split <;> rfl
@[simp] theorem State.endSegment_draws : (s.endSegment).draws = s.draws := by unfold State.endSegment; split <;> rfl

end

section
variable (s : State) (ticks : Word)

@[simp] theorem State.armTimeout_cfg : (s.armTimeout ticks).cfg = s.cfg := rfl
@[simp] theorem State.armTimeout_cw : (s.armTimeout ticks).cw = s.cw := rfl
@[simp] theorem State.armTimeout_cwWritten : (s.armTimeout ticks).cwWritten = s.cwWritten := rfl
@[simp] theorem State.armTimeout_argw : (s.armTimeout ticks).argw = s.argw := rfl
@[simp] theorem State.armTimeout_pay : (s.armTimeout ticks).pay = s.pay := rfl
@[simp] theorem State.armTimeout_payLen : (s.armTimeout ticks).payLen = s.payLen := rfl
@[simp] theorem State.armTimeout_resStatus : (s.armTimeout ticks).resStatus = s.resStatus := rfl
@[simp] theorem State.armTimeout_resValue : (s.armTimeout ticks).resValue = s.resValue := rfl
@[simp] theorem State.armTimeout_mf : (s.armTimeout ticks).mf = s.mf := rfl
@[simp] theorem State.armTimeout_busy : (s.armTimeout ticks).busy = s.busy := rfl
@[simp] theorem State.armTimeout_timedOut : (s.armTimeout ticks).timedOut = s.timedOut := rfl
@[simp] theorem State.armTimeout_adcEnable : (s.armTimeout ticks).adcEnable = s.adcEnable := rfl
@[simp] theorem State.armTimeout_adcConfig : (s.armTimeout ticks).adcConfig = s.adcConfig := rfl
@[simp] theorem State.armTimeout_adcResult : (s.armTimeout ticks).adcResult = s.adcResult := rfl
@[simp] theorem State.armTimeout_adcConv : (s.armTimeout ticks).adcConv = s.adcConv := rfl
@[simp] theorem State.armTimeout_irqAdc : (s.armTimeout ticks).irqAdc = s.irqAdc := rfl
@[simp] theorem State.armTimeout_toArmed : (s.armTimeout ticks).toArmed = true := rfl
@[simp] theorem State.armTimeout_toTicks : (s.armTimeout ticks).toTicks = ticks := rfl
@[simp] theorem State.armTimeout_dest : (s.armTimeout ticks).dest = s.dest := rfl
@[simp] theorem State.armTimeout_fb : (s.armTimeout ticks).fb = s.fb := rfl
@[simp] theorem State.armTimeout_scratch : (s.armTimeout ticks).scratch = s.scratch := rfl
@[simp] theorem State.armTimeout_battPrev : (s.armTimeout ticks).battPrev = s.battPrev := rfl
@[simp] theorem State.armTimeout_busActive : (s.armTimeout ticks).busActive = s.busActive := rfl
@[simp] theorem State.armTimeout_busSrc : (s.armTimeout ticks).busSrc = s.busSrc := rfl
@[simp] theorem State.armTimeout_busPtr : (s.armTimeout ticks).busPtr = s.busPtr := rfl
@[simp] theorem State.armTimeout_busRem : (s.armTimeout ticks).busRem = s.busRem := rfl
@[simp] theorem State.armTimeout_busMode : (s.armTimeout ticks).busMode = s.busMode := rfl
@[simp] theorem State.armTimeout_cs : (s.armTimeout ticks).cs = s.cs := rfl
@[simp] theorem State.armTimeout_refConfigured : (s.armTimeout ticks).refConfigured = s.refConfigured := rfl
@[simp] theorem State.armTimeout_vcomPin : (s.armTimeout ticks).vcomPin = s.vcomPin := rfl
@[simp] theorem State.armTimeout_timerCnt : (s.armTimeout ticks).timerCnt = s.timerCnt := rfl
@[simp] theorem State.armTimeout_timerCc : (s.armTimeout ticks).timerCc = s.timerCc := rfl
@[simp] theorem State.armTimeout_timerIntenCmp : (s.armTimeout ticks).timerIntenCmp = s.timerIntenCmp := rfl
@[simp] theorem State.armTimeout_fabricChEn : (s.armTimeout ticks).fabricChEn = s.fabricChEn := rfl
@[simp] theorem State.armTimeout_gpioMode : (s.armTimeout ticks).gpioMode = s.gpioMode := rfl
@[simp] theorem State.armTimeout_irqCmp : (s.armTimeout ticks).irqCmp = s.irqCmp := rfl
@[simp] theorem State.armTimeout_wire : (s.armTimeout ticks).wire = s.wire := rfl
@[simp] theorem State.armTimeout_cancels : (s.armTimeout ticks).cancels = s.cancels := rfl
@[simp] theorem State.armTimeout_cancelCalls : (s.armTimeout ticks).cancelCalls = s.cancelCalls := rfl
@[simp] theorem State.armTimeout_toggles : (s.armTimeout ticks).toggles = s.toggles := rfl
@[simp] theorem State.armTimeout_agenda : (s.armTimeout ticks).agenda = s.agenda := rfl
@[simp] theorem State.armTimeout_draws : (s.armTimeout ticks).draws = s.draws := rfl

end

section
variable (s : State) 

@[simp] theorem State.cancelTimeout_cfg : (s.cancelTimeout).cfg = s.cfg := rfl
@[simp] theorem State.cancelTimeout_cw : (s.cancelTimeout).cw = s.cw := rfl
@[simp] theorem State.cancelTimeout_cwWritten : (s.cancelTimeout).cwWritten = s.cwWritten := rfl
@[simp] theorem State.cancelTimeout_argw : (s.cancelTimeout).argw = s.argw := rfl
@[simp] theorem State.cancelTimeout_pay : (s.cancelTimeout).pay = s.pay := rfl
@[simp] theorem State.cancelTimeout_payLen : (s.cancelTimeout).payLen = s.payLen := rfl
@[simp] theorem State.cancelTimeout_resStatus : (s.cancelTimeout).resStatus = s.resStatus := rfl
@[simp] theorem State.cancelTimeout_resValue : (s.cancelTimeout).resValue = s.resValue := rfl
@[simp] theorem State.cancelTimeout_mf : (s.cancelTimeout).mf = s.mf := rfl
@[simp] theorem State.cancelTimeout_busy : (s.cancelTimeout).busy = s.busy := rfl
@[simp] theorem State.cancelTimeout_timedOut : (s.cancelTimeout).timedOut = s.timedOut := rfl
@[simp] theorem State.cancelTimeout_adcEnable : (s.cancelTimeout).adcEnable = s.adcEnable := rfl
@[simp] theorem State.cancelTimeout_adcConfig : (s.cancelTimeout).adcConfig = s.adcConfig := rfl
@[simp] theorem State.cancelTimeout_adcResult : (s.cancelTimeout).adcResult = s.adcResult := rfl
@[simp] theorem State.cancelTimeout_adcConv : (s.cancelTimeout).adcConv = s.adcConv := rfl
@[simp] theorem State.cancelTimeout_irqAdc : (s.cancelTimeout).irqAdc = s.irqAdc := rfl
@[simp] theorem State.cancelTimeout_toArmed : (s.cancelTimeout).toArmed = false := rfl
@[simp] theorem State.cancelTimeout_toTicks : (s.cancelTimeout).toTicks = s.toTicks := rfl
@[simp] theorem State.cancelTimeout_dest : (s.cancelTimeout).dest = s.dest := rfl
@[simp] theorem State.cancelTimeout_fb : (s.cancelTimeout).fb = s.fb := rfl
@[simp] theorem State.cancelTimeout_scratch : (s.cancelTimeout).scratch = s.scratch := rfl
@[simp] theorem State.cancelTimeout_battPrev : (s.cancelTimeout).battPrev = s.battPrev := rfl
@[simp] theorem State.cancelTimeout_busActive : (s.cancelTimeout).busActive = s.busActive := rfl
@[simp] theorem State.cancelTimeout_busSrc : (s.cancelTimeout).busSrc = s.busSrc := rfl
@[simp] theorem State.cancelTimeout_busPtr : (s.cancelTimeout).busPtr = s.busPtr := rfl
@[simp] theorem State.cancelTimeout_busRem : (s.cancelTimeout).busRem = s.busRem := rfl
@[simp] theorem State.cancelTimeout_busMode : (s.cancelTimeout).busMode = s.busMode := rfl
@[simp] theorem State.cancelTimeout_cs : (s.cancelTimeout).cs = s.cs := rfl
@[simp] theorem State.cancelTimeout_refConfigured : (s.cancelTimeout).refConfigured = s.refConfigured := rfl
@[simp] theorem State.cancelTimeout_vcomPin : (s.cancelTimeout).vcomPin = s.vcomPin := rfl
@[simp] theorem State.cancelTimeout_timerCnt : (s.cancelTimeout).timerCnt = s.timerCnt := rfl
@[simp] theorem State.cancelTimeout_timerCc : (s.cancelTimeout).timerCc = s.timerCc := rfl
@[simp] theorem State.cancelTimeout_timerIntenCmp : (s.cancelTimeout).timerIntenCmp = s.timerIntenCmp := rfl
@[simp] theorem State.cancelTimeout_fabricChEn : (s.cancelTimeout).fabricChEn = s.fabricChEn := rfl
@[simp] theorem State.cancelTimeout_gpioMode : (s.cancelTimeout).gpioMode = s.gpioMode := rfl
@[simp] theorem State.cancelTimeout_irqCmp : (s.cancelTimeout).irqCmp = s.irqCmp := rfl
@[simp] theorem State.cancelTimeout_wire : (s.cancelTimeout).wire = s.wire := rfl
@[simp] theorem State.cancelTimeout_cancels : (s.cancelTimeout).cancels = if s.toArmed then s.cancels + 1 else s.cancels := rfl
@[simp] theorem State.cancelTimeout_cancelCalls : (s.cancelTimeout).cancelCalls = s.cancelCalls + 1 := rfl
@[simp] theorem State.cancelTimeout_toggles : (s.cancelTimeout).toggles = s.toggles := rfl
@[simp] theorem State.cancelTimeout_agenda : (s.cancelTimeout).agenda = s.agenda := rfl
@[simp] theorem State.cancelTimeout_draws : (s.cancelTimeout).draws = s.draws := rfl

end

section
variable (s : State) 

@[simp] theorem State.powerDownSampler_cfg : (s.powerDownSampler).cfg = s.cfg := rfl
@[simp] theorem State.powerDownSampler_cw : (s.powerDownSampler).cw = s.cw := rfl
@[simp] theorem State.powerDownSampler_cwWritten : (s.powerDownSampler).cwWritten = s.cwWritten := rfl
@[simp] theorem State.powerDownSampler_argw : (s.powerDownSampler).argw = s.argw := rfl
@[simp] theorem State.powerDownSampler_pay : (s.powerDownSampler).pay = s.pay := rfl
@[simp] theorem State.powerDownSampler_payLen : (s.powerDownSampler).payLen = s.payLen := rfl
@[simp] theorem State.powerDownSampler_resStatus : (s.powerDownSampler).resStatus = s.resStatus := rfl
@[simp] theorem State.powerDownSampler_resValue : (s.powerDownSampler).resValue = s.resValue := rfl
@[simp] theorem State.powerDownSampler_mf : (s.powerDownSampler).mf = s.mf := rfl
@[simp] theorem State.powerDownSampler_busy : (s.powerDownSampler).busy = false := rfl
@[simp] theorem State.powerDownSampler_timedOut : (s.powerDownSampler).timedOut = false := rfl
@[simp] theorem State.powerDownSampler_adcEnable : (s.powerDownSampler).adcEnable = false := rfl
@[simp] theorem State.powerDownSampler_adcConfig : (s.powerDownSampler).adcConfig = s.adcConfig := rfl
@[simp] theorem State.powerDownSampler_adcResult : (s.powerDownSampler).adcResult = s.adcResult := rfl
@[simp] theorem State.powerDownSampler_adcConv : (s.powerDownSampler).adcConv = false := rfl
@[simp] theorem State.powerDownSampler_irqAdc : (s.powerDownSampler).irqAdc = s.irqAdc := rfl
@[simp] theorem State.powerDownSampler_toArmed : (s.powerDownSampler).toArmed = s.toArmed := rfl
@[simp] theorem State.powerDownSampler_toTicks : (s.powerDownSampler).toTicks = s.toTicks := rfl
@[simp] theorem State.powerDownSampler_dest : (s.powerDownSampler).dest = s.dest := rfl
@[simp] theorem State.powerDownSampler_fb : (s.powerDownSampler).fb = s.fb := rfl
@[simp] theorem State.powerDownSampler_scratch : (s.powerDownSampler).scratch = s.scratch := rfl
@[simp] theorem State.powerDownSampler_battPrev : (s.powerDownSampler).battPrev = s.battPrev := rfl
@[simp] theorem State.powerDownSampler_busActive : (s.powerDownSampler).busActive = s.busActive := rfl
@[simp] theorem State.powerDownSampler_busSrc : (s.powerDownSampler).busSrc = s.busSrc := rfl
@[simp] theorem State.powerDownSampler_busPtr : (s.powerDownSampler).busPtr = s.busPtr := rfl
@[simp] theorem State.powerDownSampler_busRem : (s.powerDownSampler).busRem = s.busRem := rfl
@[simp] theorem State.powerDownSampler_busMode : (s.powerDownSampler).busMode = s.busMode := rfl
@[simp] theorem State.powerDownSampler_cs : (s.powerDownSampler).cs = s.cs := rfl
@[simp] theorem State.powerDownSampler_refConfigured : (s.powerDownSampler).refConfigured = s.refConfigured := rfl
@[simp] theorem State.powerDownSampler_vcomPin : (s.powerDownSampler).vcomPin = s.vcomPin := rfl
@[simp] theorem State.powerDownSampler_timerCnt : (s.powerDownSampler).timerCnt = s.timerCnt := rfl
@[simp] theorem State.powerDownSampler_timerCc : (s.powerDownSampler).timerCc = s.timerCc := rfl
@[simp] theorem State.powerDownSampler_timerIntenCmp : (s.powerDownSampler).timerIntenCmp = s.timerIntenCmp := rfl
@[simp] theorem State.powerDownSampler_fabricChEn : (s.powerDownSampler).fabricChEn = s.fabricChEn := rfl
@[simp] theorem State.powerDownSampler_gpioMode : (s.powerDownSampler).gpioMode = s.gpioMode := rfl
@[simp] theorem State.powerDownSampler_irqCmp : (s.powerDownSampler).irqCmp = s.irqCmp := rfl
@[simp] theorem State.powerDownSampler_wire : (s.powerDownSampler).wire = s.wire := rfl
@[simp] theorem State.powerDownSampler_cancels : (s.powerDownSampler).cancels = s.cancels := rfl
@[simp] theorem State.powerDownSampler_cancelCalls : (s.powerDownSampler).cancelCalls = s.cancelCalls := rfl
@[simp] theorem State.powerDownSampler_toggles : (s.powerDownSampler).toggles = s.toggles := rfl
@[simp] theorem State.powerDownSampler_agenda : (s.powerDownSampler).agenda = s.agenda := rfl
@[simp] theorem State.powerDownSampler_draws : (s.powerDownSampler).draws = s.draws := rfl

end

section
variable (s : State) 

@[simp] theorem State.takeCommand_cfg : (s.takeCommand).cfg = s.cfg := rfl
@[simp] theorem State.takeCommand_cw : (s.takeCommand).cw = s.cw := rfl
@[simp] theorem State.takeCommand_cwWritten : (s.takeCommand).cwWritten = false := rfl
@[simp] theorem State.takeCommand_argw : (s.takeCommand).argw = s.argw := rfl
@[simp] theorem State.takeCommand_pay : (s.takeCommand).pay = s.pay := rfl
@[simp] theorem State.takeCommand_payLen : (s.takeCommand).payLen = s.payLen := rfl
@[simp] theorem State.takeCommand_resStatus : (s.takeCommand).resStatus = s.resStatus := rfl
@[simp] theorem State.takeCommand_resValue : (s.takeCommand).resValue = s.resValue := rfl
@[simp] theorem State.takeCommand_mf : (s.takeCommand).mf = s.mf := rfl
@[simp] theorem State.takeCommand_busy : (s.takeCommand).busy = s.busy := rfl
@[simp] theorem State.takeCommand_timedOut : (s.takeCommand).timedOut = s.timedOut := rfl
@[simp] theorem State.takeCommand_adcEnable : (s.takeCommand).adcEnable = s.adcEnable := rfl
@[simp] theorem State.takeCommand_adcConfig : (s.takeCommand).adcConfig = s.adcConfig := rfl
@[simp] theorem State.takeCommand_adcResult : (s.takeCommand).adcResult = s.adcResult := rfl
@[simp] theorem State.takeCommand_adcConv : (s.takeCommand).adcConv = s.adcConv := rfl
@[simp] theorem State.takeCommand_irqAdc : (s.takeCommand).irqAdc = s.irqAdc := rfl
@[simp] theorem State.takeCommand_toArmed : (s.takeCommand).toArmed = s.toArmed := rfl
@[simp] theorem State.takeCommand_toTicks : (s.takeCommand).toTicks = s.toTicks := rfl
@[simp] theorem State.takeCommand_dest : (s.takeCommand).dest = s.dest := rfl
@[simp] theorem State.takeCommand_fb : (s.takeCommand).fb = s.fb := rfl
@[simp] theorem State.takeCommand_scratch : (s.takeCommand).scratch = s.scratch := rfl
@[simp] theorem State.takeCommand_battPrev : (s.takeCommand).battPrev = s.battPrev := rfl
@[simp] theorem State.takeCommand_busActive : (s.takeCommand).busActive = s.busActive := rfl
@[simp] theorem State.takeCommand_busSrc : (s.takeCommand).busSrc = s.busSrc := rfl
@[simp] theorem State.takeCommand_busPtr : (s.takeCommand).busPtr = s.busPtr := rfl
@[simp] theorem State.takeCommand_busRem : (s.takeCommand).busRem = s.busRem := rfl
@[simp] theorem State.takeCommand_busMode : (s.takeCommand).busMode = s.busMode := rfl
@[simp] theorem State.takeCommand_cs : (s.takeCommand).cs = s.cs := rfl
@[simp] theorem State.takeCommand_refConfigured : (s.takeCommand).refConfigured = s.refConfigured := rfl
@[simp] theorem State.takeCommand_vcomPin : (s.takeCommand).vcomPin = s.vcomPin := rfl
@[simp] theorem State.takeCommand_timerCnt : (s.takeCommand).timerCnt = s.timerCnt := rfl
@[simp] theorem State.takeCommand_timerCc : (s.takeCommand).timerCc = s.timerCc := rfl
@[simp] theorem State.takeCommand_timerIntenCmp : (s.takeCommand).timerIntenCmp = s.timerIntenCmp := rfl
@[simp] theorem State.takeCommand_fabricChEn : (s.takeCommand).fabricChEn = s.fabricChEn := rfl
@[simp] theorem State.takeCommand_gpioMode : (s.takeCommand).gpioMode = s.gpioMode := rfl
@[simp] theorem State.takeCommand_irqCmp : (s.takeCommand).irqCmp = s.irqCmp := rfl
@[simp] theorem State.takeCommand_wire : (s.takeCommand).wire = s.wire := rfl
@[simp] theorem State.takeCommand_cancels : (s.takeCommand).cancels = s.cancels := rfl
@[simp] theorem State.takeCommand_cancelCalls : (s.takeCommand).cancelCalls = s.cancelCalls := rfl
@[simp] theorem State.takeCommand_toggles : (s.takeCommand).toggles = s.toggles := rfl
@[simp] theorem State.takeCommand_agenda : (s.takeCommand).agenda = s.agenda := rfl
@[simp] theorem State.takeCommand_draws : (s.takeCommand).draws = s.draws := rfl

end

section
variable (s : State)

@[simp] theorem State.consumeMove_cfg : s.consumeMove.cfg = s.cfg := by
  unfold State.consumeMove; split <;> rfl
@[simp] theorem State.consumeMove_cw : s.consumeMove.cw = s.cw := by
  unfold State.consumeMove; split <;> rfl
@[simp] theorem State.consumeMove_cwWritten : s.consumeMove.cwWritten = s.cwWritten := by
  unfold State.consumeMove; split <;> rfl
@[simp] theorem State.consumeMove_argw : s.consumeMove.argw = s.argw := by
  unfold State.consumeMove; split <;> rfl
@[simp] theorem State.consumeMove_pay : s.consumeMove.pay = s.pay := by
  unfold State.consumeMove; split <;> rfl
@[simp] theorem State.consumeMove_payLen : s.consumeMove.payLen = s.payLen := by
  unfold State.consumeMove; split <;> rfl
@[simp] theorem State.consumeMove_resStatus : s.consumeMove.resStatus = s.resStatus := by
  unfold State.consumeMove; split <;> rfl
@[simp] theorem State.consumeMove_resValue : s.consumeMove.resValue = s.resValue := by
  unfold State.consumeMove; split <;> rfl
@[simp] theorem State.consumeMove_mf : s.consumeMove.mf = s.mf := by
  unfold State.consumeMove; split <;> rfl
@[simp] theorem State.consumeMove_busy : s.consumeMove.busy = s.busy := by
  unfold State.consumeMove; split <;> rfl
@[simp] theorem State.consumeMove_timedOut : s.consumeMove.timedOut = s.timedOut := by
  unfold State.consumeMove; split <;> rfl
@[simp] theorem State.consumeMove_adcEnable : s.consumeMove.adcEnable = s.adcEnable := by
  unfold State.consumeMove; split <;> rfl
@[simp] theorem State.consumeMove_adcConfig : s.consumeMove.adcConfig = s.adcConfig := by
  unfold State.consumeMove; split <;> rfl
@[simp] theorem State.consumeMove_adcResult : s.consumeMove.adcResult = s.adcResult := by
  unfold State.consumeMove; split <;> rfl
@[simp] theorem State.consumeMove_adcConv : s.consumeMove.adcConv = s.adcConv := by
  unfold State.consumeMove; split <;> rfl
@[simp] theorem State.consumeMove_irqAdc : s.consumeMove.irqAdc = s.irqAdc := by
  unfold State.consumeMove; split <;> rfl
@[simp] theorem State.consumeMove_toArmed : s.consumeMove.toArmed = s.toArmed := by
  unfold State.consumeMove; split <;> rfl
@[simp] theorem State.consumeMove_toTicks : s.consumeMove.toTicks = s.toTicks := by
  unfold State.consumeMove; split <;> rfl
@[simp] theorem State.consumeMove_dest : s.consumeMove.dest = s.dest := by
  unfold State.consumeMove; split <;> rfl
@[simp] theorem State.consumeMove_fb : s.consumeMove.fb = s.fb := by
  unfold State.consumeMove; split <;> rfl
@[simp] theorem State.consumeMove_scratch : s.consumeMove.scratch = s.scratch := by
  unfold State.consumeMove; split <;> rfl
@[simp] theorem State.consumeMove_battPrev : s.consumeMove.battPrev = s.battPrev := by
  unfold State.consumeMove; split <;> rfl
@[simp] theorem State.consumeMove_busActive : s.consumeMove.busActive = s.busActive := by
  unfold State.consumeMove; split <;> rfl
@[simp] theorem State.consumeMove_busSrc : s.consumeMove.busSrc = s.busSrc := by
  unfold State.consumeMove; split <;> rfl
@[simp] theorem State.consumeMove_busPtr : s.consumeMove.busPtr = s.busPtr := by
  unfold State.consumeMove; split <;> rfl
@[simp] theorem State.consumeMove_busRem : s.consumeMove.busRem = s.busRem := by
  unfold State.consumeMove; split <;> rfl
@[simp] theorem State.consumeMove_busMode : s.consumeMove.busMode = s.busMode := by
  unfold State.consumeMove; split <;> rfl
@[simp] theorem State.consumeMove_cs : s.consumeMove.cs = s.cs := by
  unfold State.consumeMove; split <;> rfl
@[simp] theorem State.consumeMove_refConfigured : s.consumeMove.refConfigured = s.refConfigured := by
  unfold State.consumeMove; split <;> rfl
@[simp] theorem State.consumeMove_vcomPin : s.consumeMove.vcomPin = s.vcomPin := by
  unfold State.consumeMove; split <;> rfl
@[simp] theorem State.consumeMove_timerCnt : s.consumeMove.timerCnt = s.timerCnt := by
  unfold State.consumeMove; split <;> rfl
@[simp] theorem State.consumeMove_timerCc : s.consumeMove.timerCc = s.timerCc := by
  unfold State.consumeMove; split <;> rfl
@[simp] theorem State.consumeMove_timerIntenCmp : s.consumeMove.timerIntenCmp = s.timerIntenCmp := by
  unfold State.consumeMove; split <;> rfl
@[simp] theorem State.consumeMove_fabricChEn : s.consumeMove.fabricChEn = s.fabricChEn := by
  unfold State.consumeMove; split <;> rfl
@[simp] theorem State.consumeMove_gpioMode : s.consumeMove.gpioMode = s.gpioMode := by
  unfold State.consumeMove; split <;> rfl
@[simp] theorem State.consumeMove_irqCmp : s.consumeMove.irqCmp = s.irqCmp := by
  unfold State.consumeMove; split <;> rfl
@[simp] theorem State.consumeMove_wire : s.consumeMove.wire = s.wire := by
  unfold State.consumeMove; split <;> rfl
@[simp] theorem State.consumeMove_cancels : s.consumeMove.cancels = s.cancels := by
  unfold State.consumeMove; split <;> rfl
@[simp] theorem State.consumeMove_cancelCalls : s.consumeMove.cancelCalls = s.cancelCalls := by
  unfold State.consumeMove; split <;> rfl
@[simp] theorem State.consumeMove_toggles : s.consumeMove.toggles = s.toggles := by
  unfold State.consumeMove; split <;> rfl

end

end Sys2Proof.Machine
end

