-- ==== Sys2Proof/Laws/Memory.lean ====
section
/-! SUPPORT. The byte memories: read after write, the canonical form, and that the canonical form determines the
list. -/

namespace Sys2Proof.Machine

theorem Memory.read_place (sp : Space) (a : Nat) (b : Byte) (m : Memory) (x : Nat)
    (h : Memory.read sp m a = unlisted sp a) :
    Memory.read sp (Memory.place sp a b m) x = if x = a then b else Memory.read sp m x := by
  unfold Memory.place
  split
  · next hb => split
               · next hx => rw [hx, h, hb]
               · rfl
  · simp [Memory.read]

/-- An address below every listed one reads as unlisted. -/
theorem Memory.read_below {sp : Space} {m : Memory} {lo a : Nat} (h : Memory.wfFrom sp lo m = true) (ha : a < lo) :
    Memory.read sp m a = unlisted sp a := by
  induction m generalizing lo with
  | nil => rfl
  | cons c m ih =>
    obtain ⟨k, b⟩ := c
    simp only [Memory.wfFrom, Bool.and_eq_true, decide_eq_true_eq] at h
    rw [Memory.read, if_neg (by omega)]
    exact ih h.2 (by omega)

theorem Memory.wfFrom_mono {sp : Space} {m : Memory} {lo lo' : Nat} (h : Memory.wfFrom sp lo m = true) (hl : lo' ≤ lo) :
    Memory.wfFrom sp lo' m = true := by
  cases m with
  | nil => rfl
  | cons c m =>
    obtain ⟨k, b⟩ := c
    simp only [Memory.wfFrom, Bool.and_eq_true, decide_eq_true_eq] at h ⊢
    exact ⟨⟨⟨by omega, h.1.1.2⟩, h.1.2⟩, h.2⟩

theorem Memory.wfFrom_place {sp : Space} {m : Memory} {a lo : Nat} (b : Byte) (h : Memory.wfFrom sp (a + 1) m = true)
    (hl : lo ≤ a) (ha : a < sp.size) : Memory.wfFrom sp lo (Memory.place sp a b m) = true := by
  unfold Memory.place
  split
  · exact Memory.wfFrom_mono h (by omega)
  · next hb => simp [Memory.wfFrom, hl, ha, hb, h]

theorem Memory.wfFrom_write {sp : Space} {m : Memory} {a lo : Nat} (b : Byte) (h : Memory.wfFrom sp lo m = true)
    (hl : lo ≤ a) (ha : a < sp.size) : Memory.wfFrom sp lo (Memory.write sp m a b) = true := by
  induction m generalizing lo with
  | nil => exact Memory.wfFrom_place b rfl hl ha
  | cons c m ih =>
    obtain ⟨k, v⟩ := c
    have h' := h
    simp only [Memory.wfFrom, Bool.and_eq_true, decide_eq_true_eq] at h
    rw [Memory.write]
    split
    · next hk =>
      refine Memory.wfFrom_place b ?_ hl ha
      simp only [Memory.wfFrom, Bool.and_eq_true, decide_eq_true_eq]
      exact ⟨⟨⟨by omega, h.1.1.2⟩, h.1.2⟩, h.2⟩
    · split
      · next _ hk => exact Memory.wfFrom_place b (hk ▸ h.2) hl ha
      · next h1 h2 =>
        simp only [Memory.wfFrom, Bool.and_eq_true, decide_eq_true_eq]
        exact ⟨⟨⟨h.1.1.1, h.1.1.2⟩, h.1.2⟩, ih h.2 (by omega)⟩

/-- A store inside the space keeps the canonical form. -/
theorem Memory.wf_write {sp : Space} {m : Memory} {a : Nat} (b : Byte) (h : Memory.wf sp m = true) (ha : a < sp.size) :
    Memory.wf sp (Memory.write sp m a b) = true :=
  Memory.wfFrom_write b h (Nat.zero_le a) ha

/-- Reading after a store gives the stored byte there and the old byte everywhere else. -/
theorem Memory.read_write {sp : Space} {m : Memory} {lo : Nat} (h : Memory.wfFrom sp lo m = true) (a : Nat) (b : Byte)
    (x : Nat) : Memory.read sp (Memory.write sp m a b) x = if x = a then b else Memory.read sp m x := by
  induction m generalizing lo with
  | nil => exact Memory.read_place sp a b [] x rfl
  | cons c m ih =>
    obtain ⟨k, v⟩ := c
    have h' := h
    simp only [Memory.wfFrom, Bool.and_eq_true, decide_eq_true_eq] at h
    rw [Memory.write]
    split
    · next hk =>
      refine Memory.read_place sp a b _ x ?_
      rw [Memory.read, if_neg (by omega)]
      exact Memory.read_below h.2 (by omega)
    · split
      · next _ hk =>
        subst hk
        rw [Memory.read_place sp a b m x (Memory.read_below h.2 (by omega)), Memory.read]
        split <;> rfl
      · next h1 h2 =>
        simp only [Memory.read, ih h.2]
        split
        · next hx => rw [if_neg (by omega)]
        · rfl

/-- A list of stores inside the space keeps the canonical form. -/
theorem Memory.wf_writeAll {sp : Space} {m : Memory} {cells : List Host.Cell} (h : Memory.wf sp m = true)
    (hc : ∀ c ∈ cells, c.1 < sp.size) : Memory.wf sp (Memory.writeAll sp m cells) = true := by
  induction cells generalizing m with
  | nil => exact h
  | cons c cells ih =>
    exact ih (Memory.wf_write c.2 h (hc c (by simp))) fun d hd => hc d (List.mem_cons_of_mem _ hd)

/-- A byte no store names reads as before. -/
theorem Memory.read_writeAll_other {sp : Space} {m : Memory} {cells : List Host.Cell} {x : Nat}
    (h : Memory.wf sp m = true) (hc : ∀ c ∈ cells, c.1 < sp.size) (hx : ∀ c ∈ cells, c.1 ≠ x) :
    Memory.read sp (Memory.writeAll sp m cells) x = Memory.read sp m x := by
  induction cells generalizing m with
  | nil => rfl
  | cons c cells ih =>
    have := ih (Memory.wf_write c.2 h (hc c (by simp))) (fun d hd => hc d (List.mem_cons_of_mem _ hd))
      (fun d hd => hx d (List.mem_cons_of_mem _ hd))
    refine this.trans ?_
    rw [Memory.read_write h, if_neg (fun e => hx c (by simp) e.symm)]

/-- Where the stores name distinct addresses, each of them is read back. -/
theorem Memory.read_writeAll_mem {sp : Space} {m : Memory} {cells : List Host.Cell} {a : Nat} {b : Byte}
    (h : Memory.wf sp m = true) (hc : ∀ c ∈ cells, c.1 < sp.size) (hd : (cells.map Prod.fst).Nodup)
    (hm : (a, b) ∈ cells) : Memory.read sp (Memory.writeAll sp m cells) a = b := by
  induction cells generalizing m with
  | nil => cases hm
  | cons c cells ih =>
    have hc' : ∀ d ∈ cells, d.1 < sp.size := fun d hd => hc d (List.mem_cons_of_mem _ hd)
    have hw := Memory.wf_write c.2 h (hc c (by simp))
    rw [List.map_cons, List.nodup_cons] at hd
    rcases List.mem_cons.mp hm with rfl | hm
    · refine (Memory.read_writeAll_other hw hc' ?_).trans ?_
      · exact fun d hd' e => hd.1 (List.mem_map.mpr ⟨d, hd', e⟩)
      · rw [Memory.read_write h, if_pos rfl]
    · exact ih hw hc' hd.2 hm

/-- Canonical memories that read alike are the same list. -/
theorem Memory.eq_of_read {sp : Space} {m m' : Memory} {lo : Nat} (h : Memory.wfFrom sp lo m = true)
    (h' : Memory.wfFrom sp lo m' = true) (hr : ∀ x, Memory.read sp m x = Memory.read sp m' x) : m = m' := by
  induction m generalizing lo m' with
  | nil =>
    cases m' with
    | nil => rfl
    | cons c m' =>
      obtain ⟨k, v⟩ := c
      have := hr k
      simp only [Memory.wfFrom, Bool.and_eq_true, bne_iff_ne, decide_eq_true_eq] at h'
      simp only [Memory.read, ↓reduceIte] at this
      exact absurd this.symm h'.1.2
  | cons c m ih =>
    obtain ⟨k, v⟩ := c
    have hk := hr k
    have g := h
    simp only [Memory.wfFrom, Bool.and_eq_true, bne_iff_ne, decide_eq_true_eq] at h
    cases m' with
    | nil =>
      simp only [Memory.read, ↓reduceIte] at hk
      exact absurd hk h.1.2
    | cons c' m' =>
      obtain ⟨k', v'⟩ := c'
      have hk' := hr k'
      have g' := h'
      simp only [Memory.wfFrom, Bool.and_eq_true, bne_iff_ne, decide_eq_true_eq] at h'
      have e : k = k' := by
        rcases Nat.lt_trichotomy k k' with hlt | he | hlt
        · rw [Memory.read, if_pos rfl, Memory.read, if_neg (by omega), Memory.read_below h'.2 (by omega)] at hk
          exact absurd hk h.1.2
        · exact he
        · rw [Memory.read, if_neg (by omega), Memory.read, if_pos rfl, Memory.read_below h.2 (by omega)] at hk'
          exact absurd hk'.symm h'.1.2
      subst e
      simp only [Memory.read, ↓reduceIte] at hk
      subst hk
      congr 1
      refine ih h.2 h'.2 fun x => ?_
      by_cases hx : x = k
      · subst hx; rw [Memory.read_below h.2 (by omega), Memory.read_below h'.2 (by omega)]
      · have := hr x
        rwa [Memory.read, if_neg hx, Memory.read, if_neg hx] at this

@[simp] theorem cellsFrom_length (a : Nat) (bs : List Byte) : (cellsFrom a bs).length = bs.length := by
  induction bs generalizing a with
  | nil => rfl
  | cons b bs ih => simp [cellsFrom, ih]

/-- The cells laid out from an address are the bytes at consecutive addresses. -/
theorem mem_cellsFrom {a : Nat} {bs : List Byte} {x : Nat} {b : Byte} :
    (x, b) ∈ cellsFrom a bs ↔ ∃ i, x = a + i ∧ bs[i]? = some b := by
  induction bs generalizing a with
  | nil => simp [cellsFrom]
  | cons c bs ih =>
    simp only [cellsFrom, List.mem_cons, Prod.mk.injEq, ih]
    constructor
    · rintro (⟨rfl, rfl⟩ | ⟨i, rfl, h⟩)
      · exact ⟨0, by simp⟩
      · exact ⟨i + 1, by omega, by simpa using h⟩
    · rintro ⟨i, rfl, h⟩
      cases i with
      | zero => left; simp_all
      | succ i => right; exact ⟨i, by omega, by simpa using h⟩

/-- The addresses of consecutive cells are distinct. -/
theorem nodup_cellsFrom (a : Nat) (bs : List Byte) : ((cellsFrom a bs).map Prod.fst).Nodup := by
  induction bs generalizing a with
  | nil => simp [cellsFrom]
  | cons c bs ih =>
    simp only [cellsFrom, List.map_cons, List.nodup_cons]
    refine ⟨fun h => ?_, ih _⟩
    obtain ⟨⟨x, b⟩, hm, hx⟩ := List.mem_map.mp h
    obtain ⟨i, rfl, _⟩ := mem_cellsFrom.mp hm
    simp at hx
    omega

/-- Consecutive cells lie inside a space that has room for them. -/
theorem cellsFrom_inside {a n : Nat} {bs : List Byte} (h : a + bs.length ≤ n) : ∀ c ∈ cellsFrom a bs, c.1 < n := by
  rintro ⟨x, b⟩ hm
  obtain ⟨i, rfl, hi⟩ := mem_cellsFrom.mp hm
  have := (List.getElem?_eq_some_iff.mp hi).1
  show a + i < n
  omega

end Sys2Proof.Machine
end

