-- ==== Sys2Proof/Laws/Ops.lean ====
section
/-! SUPPORT. For each shared operation one lemma that says everything it can do. -/

namespace Sys2Proof.Machine

@[simp] theorem andThen_next (s : State) (k : State → Result) : andThen (.next s) k = k s := rfl
@[simp] theorem andThen_fault (f : Fault) (k : State → Result) : andThen (.fault f) k = .fault f := rfl
@[simp] theorem andThen_refused (r : Refusal) (k : State → Result) : andThen (.refused r) k = .refused r := rfl

/-- A sequence answers a next state through the state its first part leaves. -/
theorem andThen_eq_next {r : Result} {k : State → Result} {t : State} :
    andThen r k = .next t ↔ ∃ s, r = .next s ∧ k s = .next t := by
  cases r <;> simp

/-- A sequence faults in its first part or in its second. -/
theorem andThen_eq_fault {r : Result} {k : State → Result} {f : Fault} :
    andThen r k = .fault f ↔ r = .fault f ∨ ∃ s, r = .next s ∧ k s = .fault f := by
  cases r <;> simp

theorem whenIdle_idle {s : State} (h : s.mf = .idle) (op : Result) : whenIdle s op = op := by
  simp [whenIdle, h]

/-- An operation of one step answers a next state only from idle. -/
theorem whenIdle_eq_next {s : State} {op : Result} {t : State} :
    whenIdle s op = .next t ↔ s.mf = .idle ∧ op = .next t := by
  unfold whenIdle
  split <;> simp_all

theorem whenIdle_eq_fault {s : State} {op : Result} {f : Fault} :
    whenIdle s op = .fault f ↔ s.mf = .idle ∧ op = .fault f := by
  unfold whenIdle
  split <;> simp_all

/-- Away from idle an operation of one step is refused. -/
theorem whenIdle_busy {s : State} (h : s.mf ≠ .idle) (op : Result) : whenIdle s op = .refused .mainFlowBusy := by
  unfold whenIdle
  split <;> simp_all

/-- The state `transferAsync` leaves. -/
def State.withSegment (s : State) (src : BusSource) (addr n : Nat) (mode : CsMode) : State :=
  { s.assertCs with busSrc := src, busPtr := addr, busRem := n, busMode := mode, busActive := true }

section
variable (s : State) (src : BusSource) (addr n : Nat) (mode : CsMode)

@[simp] theorem State.withSegment_cfg : (s.withSegment src addr n mode).cfg = s.cfg := by simp [State.withSegment]
@[simp] theorem State.withSegment_cw : (s.withSegment src addr n mode).cw = s.cw := by simp [State.withSegment]
@[simp] theorem State.withSegment_cwWritten : (s.withSegment src addr n mode).cwWritten = s.cwWritten :=
    by simp [State.withSegment]
@[simp] theorem State.withSegment_argw : (s.withSegment src addr n mode).argw = s.argw := by simp [State.withSegment]
@[simp] theorem State.withSegment_pay : (s.withSegment src addr n mode).pay = s.pay := by simp [State.withSegment]
@[simp] theorem State.withSegment_payLen : (s.withSegment src addr n mode).payLen = s.payLen :=
    by simp [State.withSegment]
@[simp] theorem State.withSegment_resStatus : (s.withSegment src addr n mode).resStatus = s.resStatus :=
    by simp [State.withSegment]
@[simp] theorem State.withSegment_resValue : (s.withSegment src addr n mode).resValue = s.resValue :=
    by simp [State.withSegment]
@[simp] theorem State.withSegment_mf : (s.withSegment src addr n mode).mf = s.mf := by simp [State.withSegment]
@[simp] theorem State.withSegment_busy : (s.withSegment src addr n mode).busy = s.busy := by simp [State.withSegment]
@[simp] theorem State.withSegment_timedOut : (s.withSegment src addr n mode).timedOut = s.timedOut :=
    by simp [State.withSegment]
@[simp] theorem State.withSegment_adcEnable : (s.withSegment src addr n mode).adcEnable = s.adcEnable :=
    by simp [State.withSegment]
@[simp] theorem State.withSegment_adcConfig : (s.withSegment src addr n mode).adcConfig = s.adcConfig :=
    by simp [State.withSegment]
@[simp] theorem State.withSegment_adcResult : (s.withSegment src addr n mode).adcResult = s.adcResult :=
    by simp [State.withSegment]
@[simp] theorem State.withSegment_adcConv : (s.withSegment src addr n mode).adcConv = s.adcConv :=
    by simp [State.withSegment]
@[simp] theorem State.withSegment_irqAdc : (s.withSegment src addr n mode).irqAdc = s.irqAdc :=
    by simp [State.withSegment]
@[simp] theorem State.withSegment_toArmed : (s.withSegment src addr n mode).toArmed = s.toArmed :=
    by simp [State.withSegment]
@[simp] theorem State.withSegment_toTicks : (s.withSegment src addr n mode).toTicks = s.toTicks :=
    by simp [State.withSegment]
@[simp] theorem State.withSegment_dest : (s.withSegment src addr n mode).dest = s.dest := by simp [State.withSegment]
@[simp] theorem State.withSegment_fb : (s.withSegment src addr n mode).fb = s.fb := by simp [State.withSegment]
@[simp] theorem State.withSegment_scratch : (s.withSegment src addr n mode).scratch = s.scratch :=
    by simp [State.withSegment]
@[simp] theorem State.withSegment_battPrev : (s.withSegment src addr n mode).battPrev = s.battPrev :=
    by simp [State.withSegment]
@[simp] theorem State.withSegment_busActive : (s.withSegment src addr n mode).busActive = true := rfl
@[simp] theorem State.withSegment_busSrc : (s.withSegment src addr n mode).busSrc = src := rfl
@[simp] theorem State.withSegment_busPtr : (s.withSegment src addr n mode).busPtr = addr := rfl
@[simp] theorem State.withSegment_busRem : (s.withSegment src addr n mode).busRem = n := rfl
@[simp] theorem State.withSegment_busMode : (s.withSegment src addr n mode).busMode = mode := rfl
@[simp] theorem State.withSegment_cs : (s.withSegment src addr n mode).cs = true := by simp [State.withSegment]
@[simp] theorem State.withSegment_refConfigured : (s.withSegment src addr n mode).refConfigured = s.refConfigured :=
    by simp [State.withSegment]
@[simp] theorem State.withSegment_vcomPin : (s.withSegment src addr n mode).vcomPin = s.vcomPin :=
    by simp [State.withSegment]
@[simp] theorem State.withSegment_timerCnt : (s.withSegment src addr n mode).timerCnt = s.timerCnt :=
    by simp [State.withSegment]
@[simp] theorem State.withSegment_timerCc : (s.withSegment src addr n mode).timerCc = s.timerCc :=
    by simp [State.withSegment]
@[simp] theorem State.withSegment_timerIntenCmp : (s.withSegment src addr n mode).timerIntenCmp = s.timerIntenCmp :=
    by simp [State.withSegment]
@[simp] theorem State.withSegment_fabricChEn : (s.withSegment src addr n mode).fabricChEn = s.fabricChEn :=
    by simp [State.withSegment]
@[simp] theorem State.withSegment_gpioMode : (s.withSegment src addr n mode).gpioMode = s.gpioMode :=
    by simp [State.withSegment]
@[simp] theorem State.withSegment_irqCmp : (s.withSegment src addr n mode).irqCmp = s.irqCmp :=
    by simp [State.withSegment]
@[simp] theorem State.withSegment_wire : (s.withSegment src addr n mode).wire = if s.cs then s.wire else s.wire ++ [.csAssert] := by simp [State.withSegment]
@[simp] theorem State.withSegment_cancels : (s.withSegment src addr n mode).cancels = s.cancels :=
    by simp [State.withSegment]
@[simp] theorem State.withSegment_cancelCalls : (s.withSegment src addr n mode).cancelCalls = s.cancelCalls :=
    by simp [State.withSegment]
@[simp] theorem State.withSegment_toggles : (s.withSegment src addr n mode).toggles = s.toggles :=
    by simp [State.withSegment]
@[simp] theorem State.withSegment_agenda : (s.withSegment src addr n mode).agenda = s.agenda :=
    by simp [State.withSegment]
@[simp] theorem State.withSegment_draws : (s.withSegment src addr n mode).draws = s.draws :=
    by simp [State.withSegment]

end

/-- The transfer primitive starts a segment on an idle bus, and does nothing else (R210). -/
theorem transferAsync_eq_next {src : BusSource} {addr n : Nat} {mode : CsMode} {s t : State} :
    transferAsync src addr n mode s = .next t ↔
      n ≠ 0 ∧ s.busActive = false ∧ t = s.withSegment src addr n mode := by
  unfold transferAsync
  split
  · next hn => simp [hn]
  · next hn =>
    split
    · next hb => simp [hb]
    · next hb => exact ⟨fun h => ⟨hn, by simpa using hb, (Host.Outcome.next.inj h).symm⟩, fun h => by rw [h.2.2]; rfl⟩

theorem transferAsync_no_fault {src : BusSource} {addr n : Nat} {mode : CsMode} {s : State} {f : Fault} :
    transferAsync src addr n mode s ≠ .fault f := by
  unfold transferAsync
  split
  · simp
  · split <;> simp

/-- On an idle bus the transfer primitive starts the segment. -/
theorem transferAsync_idle {s : State} (h : s.busActive = false) (src : BusSource) (addr : Nat) {n : Nat} (hn : n ≠ 0)
    (mode : CsMode) : transferAsync src addr n mode s = .next (s.withSegment src addr n mode) :=
  transferAsync_eq_next.mpr ⟨hn, h, rfl⟩

/-- On a busy bus it is refused (R210). -/
theorem transferAsync_busy {s : State} (h : s.busActive = true) (src : BusSource) (addr : Nat) {n : Nat} (hn : n ≠ 0)
    (mode : CsMode) : transferAsync src addr n mode s = .refused .busBusy := by
  simp [transferAsync, hn, h]

/-- What the bus engine does with a byte in the middle of a segment (R211). -/
theorem busByte_middle {s : State} (hp : s.busPtr < s.busSrc.space.size) (hr : 2 ≤ s.busRem) :
    busByte s = .next { s with
      wire := s.wire ++ [.byte (s.load s.busSrc.space s.busPtr)], busPtr := s.busPtr + 1, busRem := s.busRem - 1 } := by
  have : ¬ s.busRem - 1 = 0 := by omega
  simp [busByte, hp, this, State.emit]

/-- What it does with the last byte of an `Auto` segment (R211, R214). -/
theorem busByte_last_auto {s : State} (hp : s.busPtr < s.busSrc.space.size) (hr : s.busRem ≤ 1)
    (hm : s.busMode = .auto) :
    busByte s = .next { s with
      wire := s.wire ++ [.byte (s.load s.busSrc.space s.busPtr), .csRelease], busPtr := s.busPtr + 1, busRem := 0,
      busActive := false, cs := false } := by
  simp [busByte, hp, show s.busRem - 1 = 0 by omega, State.endSegment, hm, State.emit]

/-- What it does with the last byte of a `Manual` segment (R211, R214). -/
theorem busByte_last_manual {s : State} (hp : s.busPtr < s.busSrc.space.size) (hr : s.busRem ≤ 1)
    (hm : s.busMode = .manual) :
    busByte s = .next { s with
      wire := s.wire ++ [.byte (s.load s.busSrc.space s.busPtr)], busPtr := s.busPtr + 1, busRem := 0,
      busActive := false } := by
  simp [busByte, hp, show s.busRem - 1 = 0 by omega, State.endSegment, hm, State.emit]

/-- Everything the bus engine's step can do (R211, R214). -/
theorem busByte_eq_next {s t : State} :
    busByte s = .next t ↔ s.busPtr < s.busSrc.space.size ∧ t = { s with
      wire := s.wire ++ .byte (s.load s.busSrc.space s.busPtr) ::
        (if s.busRem ≤ 1 ∧ s.busMode = .auto then [.csRelease] else []),
      busPtr := s.busPtr + 1, busRem := s.busRem - 1, busActive := s.busActive && decide (2 ≤ s.busRem),
      cs := s.cs && !(decide (s.busRem ≤ 1) && s.busMode = .auto) } := by
  by_cases hp : s.busPtr < s.busSrc.space.size
  · by_cases hr : s.busRem ≤ 1
    · have h0 : s.busRem - 1 = 0 := by omega
      cases hm : s.busMode with
      | auto => simp [busByte_last_auto hp hr hm, hp, hr, hm, h0, show ¬ 2 ≤ s.busRem by omega, eq_comm]
      | manual => simp [busByte_last_manual hp hr hm, hp, hr, hm, h0, show ¬ 2 ≤ s.busRem by omega, eq_comm]
    · simp [busByte_middle hp (by omega), hp, hr, show 2 ≤ s.busRem by omega, eq_comm]
  · simp [busByte, hp]

/-- The addresses of a text's stores: eight lines from `line` on, byte-columns from `k` on (R171). -/
theorem columnCells_addr {line k : Nat} {bs : List Byte} {a : Nat} {b : Byte} :
    (a, b) ∈ columnCells line k bs ↔ ∃ r, a = fbAddr (line + r) k ∧ bs[r]? = some b := by
  induction bs generalizing line with
  | nil => simp [columnCells]
  | cons c bs ih =>
    simp only [columnCells, List.mem_cons, Prod.mk.injEq, ih]
    constructor
    · rintro (⟨rfl, rfl⟩ | ⟨r, rfl, h⟩)
      · exact ⟨0, by simp⟩
      · exact ⟨r + 1, by rw [show line + 1 + r = line + (r + 1) by omega], by simpa using h⟩
    · rintro ⟨r, rfl, h⟩
      cases r with
      | zero => left; simp_all
      | succ r => right; exact ⟨r, by rw [show line + 1 + r = line + (r + 1) by omega], by simpa using h⟩

/-- A text whose bytes all have glyphs has stores: one per character and row (R171). -/
theorem textCells_isSome {cfg : Config} {inv : Bool} {line k : Nat} {text : List Byte} :
    (textCells cfg inv line k text).isSome = cfg.hasGlyphs text := by
  induction text generalizing k with
  | nil => rfl
  | cons c cs ih =>
    specialize ih (k := k + 1)
    simp only [Config.hasGlyphs, List.all_cons] at ih ⊢
    rw [← ih, textCells, Config.glyphBytes_eq]
    cases cfg.glyphOf c <;> cases textCells cfg inv line (k + 1) cs <;> rfl

/-- The stores of a text: row `r` of the `i`-th character's glyph at `FBL[line + r][k + i]` (R171). -/
theorem textCells_mem {cfg : Config} {inv : Bool} {line k : Nat} {text : List Byte} {cells : List Host.Cell}
    (h : textCells cfg inv line k text = some cells) {a : Nat} {b : Byte} :
    (a, b) ∈ cells ↔ ∃ i c g r, text[i]? = some c ∧ cfg.glyphOf c = some g ∧
      (g.rows inv).toList[r]? = some b ∧ a = fbAddr (line + r) (k + i) := by
  induction text generalizing k cells with
  | nil =>
    simp only [textCells, Option.some.injEq] at h
    subst h; simp
  | cons c cs ih =>
    rw [textCells, Config.glyphBytes_eq] at h
    split at h
    · next rows rest hrows hrest =>
      obtain ⟨g, hg, rfl⟩ := Option.map_eq_some_iff.mp hrows
      clear hrows
      simp only [Option.some.injEq] at h
      subst h
      rw [List.mem_append, columnCells_addr, ih hrest]
      constructor
      · rintro (⟨r, rfl, hr⟩ | ⟨i, c', g', r, hi, hg', hr, rfl⟩)
        · exact ⟨0, c, g, r, by simp, hg, hr, rfl⟩
        · exact ⟨i + 1, c', g', r, by simpa using hi, hg', hr, by rw [show k + 1 + i = k + (i + 1) by omega]⟩
      · rintro ⟨i, c', g', r, hi, hg', hr, rfl⟩
        cases i with
        | zero =>
          simp only [List.getElem?_cons_zero, Option.some.injEq] at hi
          subst hi
          rw [hg] at hg'
          cases hg'
          exact .inl ⟨r, rfl, hr⟩
        | succ i =>
          exact .inr ⟨i, c', g', r, by simpa using hi, hg', hr, by rw [show k + 1 + i = k + (i + 1) by omega]⟩
    · cases h

/-- The body of WRITE_TEXT answers the stores of its text, inside the bounds (R171, R174). -/
theorem renderText_eq_next {text : List Byte} {line col : Nat} {inv : Bool} {s t : State} :
    renderText text line col inv s = .next t ↔
      textFits text.length line col = true ∧
        ∃ cells, textCells s.cfg inv line (1 + col) text = some cells ∧ t = s.storeFb cells := by
  unfold renderText
  split
  · next hf =>
    split
    · next cells hc => simp [hf, hc, eq_comm]
    · next hc => simp [hc]
  · next hf => simp [hf]

theorem renderText_no_fault {text : List Byte} {line col : Nat} {inv : Bool} {s : State} {f : Fault} :
    renderText text line col inv s ≠ .fault f := by
  unfold renderText
  split
  · split <;> simp
  · simp

/-- Where a text fits and has glyphs, WRITE_TEXT's body answers (R171). -/
theorem renderText_runs {text : List Byte} {line col : Nat} {inv : Bool} {s : State}
    (hf : textFits text.length line col = true) (hg : s.cfg.hasGlyphs text = true) :
    ∃ cells, textCells s.cfg inv line (1 + col) text = some cells ∧
      renderText text line col inv s = .next (s.storeFb cells) := by
  rw [← textCells_isSome (inv := inv) (line := line) (k := 1 + col), Option.isSome_iff_exists] at hg
  obtain ⟨cells, hc⟩ := hg
  exact ⟨cells, hc, renderText_eq_next.mpr ⟨hf, cells, hc, rfl⟩⟩

end Sys2Proof.Machine
end

