-- ==== Sys2Proof/Laws/PerInstr.lean ====
section
/-! SUPPORT. For every operation: its command word lies under the mask and match of its row of the opcode table
(R99). -/

namespace Sys2Proof.Laws.TableRow

/-- The mask and match of an operation's row (R99, opcode_table.json); none for the wire commands, whose rows are
bytes of parameters. -/
def maskMatch : Instr → Option (Word × Word)
  | .sample => some (0xFFFFFFFF, 0x00000001)
  | .writeText _ _ _ => some (0xFE0000FF, 0x00000010)
  | .writeRegion _ _ => some (0xFF0000FF, 0x00000011)
  | .ovClock => some (0xFFFFFFFF, 0x00000018)
  | .ovBattery _ => some (0xFFFF00FF, 0x00000019)
  | .ovConnection _ => some (0xFFFF00FF, 0x0000001A)
  | .ovSampling _ => some (0xFFFF00FF, 0x0000001B)
  | .ovFix _ => some (0xFFFF00FF, 0x0000001C)
  | .clearScreen => some (0xFFFFFFFF, 0x00000020)
  | .flushLine _ => some (0xFFFF00FF, 0x00000021)
  | .flushRange _ _ => some (0xFF0000FF, 0x00000022)
  | .waitIdle => some (0xFFFFFFFF, 0x00000024)
  | .refreshConfigure => some (0xFFFFFFFF, 0x00000030)
  | .flushAll => some (0xFFFFFFFF, 0x00600022)
  | .cmdClear | .cmdWriteOneLine | .cmdWriteMultipleLines => none

/-- The operation's word, where it has one, lies under its row's mask and match. -/
def Statement (i : Instr) : Prop :=
  ∀ w mask pattern, encode i = some w → maskMatch i = some (mask, pattern) → w &&& mask = pattern

theorem cmdWord_and (o a b : Byte) (inv : Bool) (o' a' b' : Byte) (inv' : Bool) :
    cmdWord o a b inv &&& cmdWord o' a' b' inv' = cmdWord (o &&& o') (a &&& a') (b &&& b') (inv && inv') := by
  apply BitVec.eq_of_getLsbD_eq
  intro i hi
  simp only [BitVec.getLsbD_and, cmdWord_getLsbD]
  split_ifs <;> simp

theorem and_ff (x : Byte) : x &&& 0xFF = x := BitVec.and_allOnes

theorem and_zero_field {w m : Word} {o a b : Byte} {inv : Bool} (m' : Word) (hw : w = cmdWord o a b inv)
    (hm : cmdWord 0xFF 0xFF 0xFF true &&& m = m') : w &&& m = w &&& m' := by
  rw [← hm, ← BitVec.and_assoc, hw, cmdWord_and]
  simp only [and_ff, Bool.and_true]

theorem of_fields {w mask : Word} {o a b : Byte} {inv : Bool} (o' a' b' : Byte) (inv' : Bool) {pattern : Word}
    (hw : w = cmdWord o a b inv) (hm : cmdWord 0xFF 0xFF 0xFF true &&& mask = cmdWord o' a' b' inv')
    (hp : cmdWord (o &&& o') (a &&& a') (b &&& b') (inv && inv') = pattern) : w &&& mask = pattern := by
  rw [and_zero_field _ hw hm, hw, cmdWord_and, hp]

theorem sample : Statement .sample := by
  intro w m p hw hm; cases hw; cases hm; decide

theorem writeText (line col : Byte) (inverted : Bool) : Statement (.writeText line col inverted) := by
  intro w m p hw hm; cases hw; cases hm
  exact of_fields 0xFF 0 0 false rfl (by decide) (by simp; decide)

theorem writeRegion (line col : Byte) : Statement (.writeRegion line col) := by
  intro w m p hw hm; cases hw; cases hm
  exact of_fields 0xFF 0 0 true rfl (by decide) (by simp; decide)

theorem ovClock : Statement .ovClock := by
  intro w m p hw hm; cases hw; cases hm; decide

theorem ovBattery (pct : Byte) : Statement (.ovBattery pct) := by
  intro w m p hw hm; cases hw; cases hm
  exact of_fields 0xFF 0 0xFF true rfl (by decide) (by simp; decide)

theorem ovConnection (on : Byte) : Statement (.ovConnection on) := by
  intro w m p hw hm; cases hw; cases hm
  exact of_fields 0xFF 0 0xFF true rfl (by decide) (by simp; decide)

theorem ovSampling (on : Byte) : Statement (.ovSampling on) := by
  intro w m p hw hm; cases hw; cases hm
  exact of_fields 0xFF 0 0xFF true rfl (by decide) (by simp; decide)

theorem ovFix (fix : Byte) : Statement (.ovFix fix) := by
  intro w m p hw hm; cases hw; cases hm
  exact of_fields 0xFF 0 0xFF true rfl (by decide) (by simp; decide)

theorem clearScreen : Statement .clearScreen := by
  intro w m p hw hm; cases hw; cases hm; decide

theorem flushLine (index : Byte) : Statement (.flushLine index) := by
  intro w m p hw hm; cases hw; cases hm
  exact of_fields 0xFF 0 0xFF true rfl (by decide) (by simp; decide)

theorem flushRange (start stop : Byte) : Statement (.flushRange start stop) := by
  intro w m p hw hm; cases hw; cases hm
  exact of_fields 0xFF 0 0 true rfl (by decide) (by simp; decide)

theorem waitIdle : Statement .waitIdle := by
  intro w m p hw hm; cases hw; cases hm; decide

theorem refreshConfigure : Statement .refreshConfigure := by
  intro w m p hw hm; cases hw; cases hm; decide

theorem flushAll : Statement .flushAll := by
  intro w m p hw hm; cases hw; cases hm; decide

theorem cmdClear : Statement .cmdClear := by
  intro w m p hw; cases hw

theorem cmdWriteOneLine : Statement .cmdWriteOneLine := by
  intro w m p hw; cases hw

theorem cmdWriteMultipleLines : Statement .cmdWriteMultipleLines := by
  intro w m p hw; cases hw

end Sys2Proof.Laws.TableRow
end

