-- ==== Sys2Proof/Laws/Runs.lean ====
section
/-! SUPPORT. Runs of moves: the induction over a run, and the tail of a fair run. -/

namespace Sys2Proof.Machine

/-- What every move keeps holds all along a run that starts with it. -/
theorem IsRun.keeps {trace : Nat → State} {ms : Nat → Move} {P : State → Prop} (run : IsRun trace ms)
    (keep : ∀ m s t, P s → perform m s = .next t → P t) {n : Nat} (start : P (trace n)) :
    ∀ k, n ≤ k → P (trace k) := by
  intro k hk
  induction k, hk using Nat.le_induction with
  | base => exact start
  | succ k _ ih => exact keep (ms k) _ _ ih (run k)

/-- A move that is enabled as long as it is not taken is taken, in a run weakly fair to it. -/
theorem WeaklyFair.taken {trace : Nat → State} {ms : Nat → Move} {m : Move} (fair : WeaklyFair trace ms m) {n : Nat}
    (stays : ∀ k, n ≤ k → (∀ j, n ≤ j → j < k → ms j ≠ m) → enabled (trace k) m = true) :
    ∃ k, n ≤ k ∧ ms k = m := by
  by_contra never
  push Not at never
  obtain ⟨k, hk, taken⟩ := fair n fun k hk => stays k hk fun j hj _ => never j hj
  exact never k hk taken

end Sys2Proof.Machine
end

