-- ==== Sys2Proof/Laws/Views.lean ====
section
/-! SUPPORT. The bits of a wire log (R64). -/

namespace Sys2Proof.Machine

/-- Bit 0 leaves first, bit 7 last (R64). -/
theorem lsbFirst_eq (b : Byte) :
    lsbFirst b =
      [b.getLsbD 0, b.getLsbD 1, b.getLsbD 2, b.getLsbD 3, b.getLsbD 4, b.getLsbD 5, b.getLsbD 6, b.getLsbD 7] := rfl

@[simp] theorem wireBits_append (es fs : List WireEvent) : wireBits (es ++ fs) = wireBits es ++ wireBits fs := by
  induction es with
  | nil => rfl
  | cons e es ih => cases e <;> simp [wireBits, ih]

/-- Bytes put their bits on the wire one after another. -/
@[simp] theorem wireBits_bytes (bs : List Byte) : wireBits (bs.map .byte) = bs.flatMap lsbFirst := by
  induction bs with
  | nil => rfl
  | cons b bs ih => simp [wireBits, ih]

end Sys2Proof.Machine
end

