-- ==== Sys2Proof/Tests/Slice0.lean ====
section
/-! SUPPORT. Tests on fixed values from 95_test_vectors.md (`V-…`), and for every statement with hypotheses a state
that meets them (`witness_<statement>`, one conjunct per clause). -/

open Sys2Proof Sys2Proof.Machine

namespace Sys2Proof.Tests

/-! ### States and checks the tests share -/

/-- The answer is a next state with the property. -/
def okAnd (r : Result) (p : State → Bool) : Bool :=
  match r with
  | .next t => p t
  | .fault _ => false
  | .refused _ => false

/-- The answer is the refusal. -/
def refusedWith (r : Result) (why : Refusal) : Bool :=
  match r with
  | .refused f => f = why
  | .next _ => false
  | .fault _ => false

/-- The answer is a next state. -/
def completes (r : Result) : Bool := okAnd r fun _ => true

/-- The blank start of 95 section 0. -/
def blank : State := State.reset

/-- The blank start with a byte operand. -/
def withPay (bytes : List Byte) (n : Fin 33) : State :=
  { blank with pay := Memory.writeAll .pay [] (cellsFrom 0 bytes), payLen := n }

/-- The blank start with a word operand. -/
def withArgw (v : Word) : State := { blank with argw := v }

/-- The blank start with a written command. -/
def commanded (cw : Word) : State := { blank with cw := cw, cwWritten := true, argw := 3277 }

/-- SAMPLE at its wait, converting, with the timeout armed. -/
def waiting : State :=
  { blank with
    cw := 1, argw := 3277, toTicks := 3277, mf := .sample .wait, busy := true, toArmed := true,
    adcEnable := true, adcConv := true, adcConfig := .sampleSetup }

/-- SAMPLE at its last step, completed with 0x9C. -/
def completed : State :=
  { blank with cw := 1, argw := 3277, mf := .sample .leave, adcEnable := true, adcResult := 0x9C, dest := 0x9C }

/-- SAMPLE at its last step, timed out while converting. -/
def expired : State :=
  { blank with
    cw := 1, argw := 3277, mf := .sample .leave, busy := true, timedOut := true, adcEnable := true, adcConv := true }

/-- A clear-screen segment before its first byte. -/
def clearing : State :=
  { blank with scratch := [(0, 0x04)], busActive := true, busSrc := .scratch, busRem := 2, cs := true }

/-- FLUSH_RANGE 0, 1 at a position. -/
def flushing (at_ : RangeStep) (active : Bool) : State :=
  { blank with
    cw := 0x00010022, mf := .flushRange at_, scratch := [(0, 0x01)], busActive := active, busRem := 1,
    busMode := .manual, cs := true }

/-- The last segment of a flush of line 0, from FB. -/
def sendingLine : State :=
  { blank with busActive := true, busSrc := .fb, busPtr := 0, busRem := 14, cs := true }

/-- V-F1 with `c0 = 5`. -/
def refreshing : State :=
  { blank with
    timerCnt := 5, timerCc := 2053, refConfigured := true, fabricChEn := true, timerIntenCmp := true,
    gpioMode := .toggle }

/-- The payload of V-O10. -/
def fixBytes : List Byte :=
  [0x30, 0x35, 0x32, 0x31, 0x33, 0x34, 0x35, 0x36, 0x37, 0x4E,
   0x30, 0x32, 0x31, 0x30, 0x30, 0x39, 0x38, 0x37, 0x36, 0x45]

/-- The states along the moves, standing still at a stop. -/
def follow (ms : Nat → Move) (s : State) : Nat → State
  | 0 => s
  | n + 1 =>
    match perform (ms n) (follow ms s n) with
    | .next t => t
    | .fault _ => follow ms s n
    | .refused _ => follow ms s n

/-- Where no move can stop, the states along the moves are a run. -/
theorem follow_isRun {ms : Nat → Move} (total : ∀ n s, ∃ t, perform (ms n) s = .next t) (s : State) :
    IsRun (follow ms s) ms := by
  intro n
  obtain ⟨t, ht⟩ := total n (follow ms s n)
  rw [follow, ht]

/-- Compare event, handler, compare event, … -/
def compareRounds (n : Nat) : Move := if n % 2 = 0 then .cmpMatch else .hCmp

/-- The last segment of a flush of line 95, before its last byte and after it. -/
def lastByte : State :=
  { blank with busActive := true, busSrc := .fb, busPtr := 1343, busRem := 1, cs := true }

def lastByteSent : State :=
  { lastByte with busPtr := 1344, busRem := 0, busActive := false, cs := false, wire := [.byte 0x00, .csRelease] }

/-- A board whose three wire command bytes differ. -/
def distinctCommands : Config := { Config.fixture with cmdWriteMultipleLines := 0x05 }

/-! ### Well-formedness: one ill-formed term per check -/

theorem test_wf_accepts :
    (Instr.writeText 88 11 true).wf = true ∧ (Instr.writeRegion 95 11).wf = true ∧ (Instr.ovBattery 100).wf = true ∧
    (Instr.ovFix 1).wf = true ∧ (Instr.flushLine 95).wf = true ∧ (Instr.flushRange 95 96).wf = true := by decide

theorem test_wf_refuses :
    (Instr.writeText 89 0 false).wf = false ∧ (Instr.writeText 0 12 false).wf = false ∧
    (Instr.writeRegion 96 0).wf = false ∧ (Instr.writeRegion 0 12).wf = false ∧
    (Instr.ovBattery 101).wf = false ∧ (Instr.ovConnection 2).wf = false ∧ (Instr.ovSampling 2).wf = false ∧
    (Instr.ovFix 2).wf = false ∧ (Instr.flushLine 96).wf = false ∧ (Instr.flushRange 3 3).wf = false ∧
    (Instr.flushRange 5 2).wf = false ∧ (Instr.flushRange 0 97).wf = false := by decide

/-! ### Decoding: words written out bit by bit, `ZERO` 31:25, `INV` 24, `B` 23:16, `A` 15:8, `OPSEL` 7:0 (R97) -/

theorem test_decode_sampler : decode 0b00000000000000000000000000000001 = .ok .sample := by decide

theorem test_decode_renderer :
    decode 0b00000001000000000000100000010000 = .ok (.writeText 8 0 true) ∧
    decode 0b00000000000010100101111100010001 = .ok (.writeRegion 95 10) := by decide

theorem test_decode_overlays :
    decode 0b00000000000000000000000000011000 = .ok .ovClock ∧
    decode 0b00000000000000000101011100011001 = .ok (.ovBattery 87) ∧
    decode 0b00000000000000000000000100011010 = .ok (.ovConnection 1) ∧
    decode 0b00000000000000000000000000011011 = .ok (.ovSampling 0) ∧
    decode 0b00000000000000000000000100011100 = .ok (.ovFix 1) := by decide

theorem test_decode_transfer :
    decode 0b00000000000000000000000000100000 = .ok .clearScreen ∧
    decode 0b00000000000000000101111100100001 = .ok (.flushLine 95) ∧
    decode 0b00000000000010000000000000100010 = .ok (.flushRange 0 8) ∧
    decode 0b00000000011000000000000000100010 = .ok Instr.flushAll.canonical ∧
    decode 0b00000000000000000000000000100100 = .ok .waitIdle := by decide

theorem test_decode_refresh : decode 0b00000000000000000000000000110000 = .ok .refreshConfigure := by decide

/-- R95's default bytes; the multi-line byte is the one-line byte there (log 9). -/
theorem test_decode_wire :
    decodeTableWord 8 0b00000100 = some .cmdClear ∧ decodeTableWord 8 0b00000001 = some .cmdWriteOneLine ∧
    decodeWire distinctCommands 0b00000101 = some .cmdWriteMultipleLines ∧ decodeTableWord 8 0b00000010 = none := by
  decide

/-- V-E16, V-E19, V-E20, V-E22. -/
theorem test_decode_reserved :
    decode 0x00000000 = .error .opsel ∧ decode 0x00000101 = .error .unusedField ∧
    decode 0x02000010 = .error .zeroField ∧ decode 0x00010021 = .error .unusedField := by decide

/-! ### The step from reset -/

theorem test_reset_meets_inv : inv State.reset = true := by decide

/-- A placed command word is the next thing to run, V-F1. -/
theorem test_step_runs_placed_word :
    okAnd (step (State.reset.withFetchWord 32 0x00000030)) (fun t => t.refConfigured && !t.cwWritten) = true := by
  decide

/-- A placed wire byte is the next thing to be sent. -/
theorem test_step_sends_placed_byte :
    okAnd (step (State.reset.withFetchWord 8 0x04)) (fun t => t.wire = [.byte 0x04] && t.busRem == 1) = true := by
  decide

/-! ### SAMPLE -/

/-- V-S1. -/
theorem test_sample_completes :
    okAnd (exec .sample completed) (fun t => t.resStatus == 0 && t.resValue == 0x9C && !t.adcEnable) = true := by
  decide

/-- V-S2. -/
theorem test_sample_times_out :
    okAnd (exec .sample expired) (fun t =>
      t.resStatus == 1 && t.resValue == 0 && t.cancelCalls == 1 && t.cancels == 0 && !t.adcConv) = true := by decide

/-- V-S1 after `H_ADC`. -/
theorem test_completion_handler :
    okAnd (perform .hAdc { waiting with adcConv := false, irqAdc := true, adcResult := 0x9C }) (fun t =>
      t.dest == 0x9C && !t.busy && !t.toArmed && t.cancels == 1 && t.cancelCalls == 1) = true := by decide

/-! ### The renderer -/

/-- V-W2. -/
theorem test_write_text_inverted :
    okAnd (exec (.writeText 16 0 true) (withPay [0x41] 1)) (fun t =>
      t.load .fb 225 == 0xF7 && t.load .fb 323 == 0xF0 && t.load .fb 224 == 17) = true := by decide

/-- V-W3: the second character stands one byte-column to the right. -/
theorem test_write_text_columns :
    okAnd (exec (.writeText 16 0 false) (withPay [0x41, 0x41] 2)) (fun t =>
      t.fbByte 16 1 == 0x08 && t.fbByte 16 2 == 0x08 && t.fbByte 16 34 == 0) = true := by decide

/-- Glyph `A` in both font spaces by address, and their ends: TESTFONT, V-W1, V-W2, V-W12. -/
theorem test_font_addresses :
    Config.fixture.fontBytes .fontN (8 * 33) 3 = some [0x08, 0x09, 0x0A] ∧
    Config.fixture.fontByte .fontI (8 * 33) = some 0xF7 ∧ Config.fixture.fontByte .fontN (8 * 94 + 7) = some 0xF7 ∧
    Config.fixture.fontByte .fontN (8 * 95) = none := by decide

/-- V-W16, and V-W19. -/
theorem test_write_region :
    okAnd (exec (.writeRegion 95 10) (withPay [0xFF, 0x00] 2)) (fun t =>
      t.load .fb 1341 == 0xFF && t.load .fb 1342 == 0x00 && t.load .fb 1330 == 96) = true ∧
    refusedWith (exec (.writeRegion 0 11) (withPay [0x01, 0x02] 2)) .operandRange = true := by decide

/-! ### The overlays -/

/-- V-O2: row 0 of `01:02:05`. -/
theorem test_ov_clock :
    okAnd (exec .ovClock (withArgw 3725)) (fun t =>
      t.loadBytes .fb 1 8 = [0x80, 0x88, 0xD0, 0x80, 0x90, 0xD0, 0x80, 0xA8]) = true := by decide

/-- V-O6: row 1 of `"  7%"` after 100. -/
theorem test_ov_battery :
    okAnd (exec (.ovBattery 7) { blank with battPrev := some 100 }) (fun t =>
      t.loadBytes .fb 23 4 = [0x01, 0x01, 0xB9, 0x29] && t.battPrev == some 7) = true := by decide

/-- V-O5. -/
theorem test_ov_battery_cached :
    okAnd (exec (.ovBattery 100) { blank with battPrev := some 100 }) (fun t => t.fbByte 0 9 == 0) = true := by decide

/-- V-O11, V-O12. -/
theorem test_ov_indicators :
    okAnd (exec (.ovConnection 1) blank) (fun t => t.fbByte 8 12 == 0x18) = true ∧
    okAnd (exec (.ovSampling 1) blank) (fun t => t.fbByte 8 11 == 0x98) = true := by decide

set_option maxRecDepth 4096 in
/-- V-O9. -/
theorem test_ov_fix_absent :
    okAnd (exec (.ovFix 0) blank) (fun t =>
      t.loadBytes .fb 225 12 = [0xC0, 0xC0, 0xC0, 0x50, 0xC0, 0xC0, 0x70, 0xC0, 0xC0, 0xC0, 0xC0, 0x38] &&
      t.fbByte 40 1 == 0xC0) = true := by decide

set_option maxRecDepth 4096 in
/-- V-O10. -/
theorem test_ov_fix :
    okAnd (exec (.ovFix 1) (withPay fixBytes 20)) (fun t =>
      t.loadBytes .fb 225 12 = [0x80, 0xA8, 0x90, 0x50, 0x88, 0x98, 0x70, 0xA0, 0xA8, 0xB0, 0xB8, 0x38] &&
      t.fbByte 24 1 == 0x70 && t.fbByte 40 1 == 0x28) = true := by decide

/-! ### The transfers -/

/-- V-T1 at its first step. -/
theorem test_clear_screen :
    okAnd (exec .clearScreen blank) (fun t =>
      t.loadBytes .scratch 0 2 = [0x04, 0x00] && t.wire = [.csAssert] && t.busRem == 2) = true := by decide

/-- V-T3: what is staged. -/
theorem test_flush_line :
    okAnd (exec (.flushLine 95) blank) (fun t =>
      t.loadBytes .scratch 0 16 = [0x01, 0x60, 0, 0, 0, 0, 0, 0, 0, 0, 0, 0, 0, 0, 0, 0] && t.busRem == 16) = true := by
  decide

/-- V-T4 after `M3`. -/
theorem test_flush_range :
    okAnd (exec (.flushRange 0 1) (flushing .send false)) (fun t =>
      t.busSrc = .fb && t.busPtr == 0 && t.busRem == 14 && t.busMode = .auto && t.wire = []) = true := by decide

/-- V-T5, V-T6: where the second segment lies. -/
theorem test_flush_ends :
    okAnd (exec (.flushRange 95 96) (flushing .send false)) (fun t => t.busPtr == 1330 && t.busRem == 14) = true ∧
    okAnd (exec .flushAll (flushing .send false)) (fun t => t.busPtr == 0 && t.busRem == 1344) = true := by decide

/-- V-T11, and the wait. -/
theorem test_wait_idle :
    okAnd (exec .waitIdle blank) (fun t => t.mf = .idle && t.wire = []) = true ∧
    okAnd (exec .waitIdle clearing) (fun t => t.mf = .waitIdle) = true := by decide

/-- V-T1: the two bytes of the clear. -/
theorem test_bus_engine_ends_transaction :
    okAnd (runMoves [.busByte, .busByte] clearing) (fun t =>
      t.wire = [.byte 0x04, .byte 0x00, .csRelease] && !t.cs && !t.busActive) = true := by decide

/-- R94: a command byte is sent only where it is staged. -/
theorem test_wire_commands :
    okAnd (exec .cmdClear clearing) (fun t => t.wire = [.byte 0x04]) = true ∧
    okAnd (exec .cmdWriteOneLine { clearing with scratch := [(0, 0x01)] }) (fun t => t.wire = [.byte 0x01]) = true ∧
    okAnd (exec .cmdWriteMultipleLines (flushing .wait true)) (fun t =>
      t.wire = [.byte 0x01] && t.cs && !t.busActive) = true ∧
    refusedWith (exec .cmdWriteOneLine clearing) .commandNotStaged = true := by decide

/-! ### The refresh chain -/

/-- V-F1, V-F4. -/
theorem test_refresh_configure :
    okAnd (exec .refreshConfigure { blank with timerCnt := 5 }) (fun t =>
      t.timerCc == 2053 && t.gpioMode = .toggle && t.timerIntenCmp && t.fabricChEn && !t.vcomPin) = true ∧
    refusedWith (exec .refreshConfigure refreshing) .alreadyConfigured = true := by decide

/-- V-F2, one round. -/
theorem test_compare_match :
    okAnd (runMoves [.cmpMatch, .hCmp] refreshing) (fun t =>
      t.vcomPin && t.toggles == 1 && !t.irqCmp && t.timerCc == 4101) = true := by decide

/-! ### Views -/

/-- V-S13, and the pixel view of V-W17. -/
theorem test_views :
    AdcConfig.sampleSetup.word = 0x00000018 ∧
    lsbFirst 0xAA = [false, true, false, true, false, true, false, true] ∧
    transactions [.csAssert, .byte 0x04, .byte 0x00, .csRelease] = [[0x04, 0x00]] := by decide

/-! ### Witnesses: the hypotheses of each statement are met, clause by clause -/

theorem witness_DecodeOfEncode :
    encode (.flushRange 255 255) = some 0x00FFFF22 ∧ encode (.writeText 255 0 true) = some 0x0100FF10 ∧
    encode .flushAll = some 0x00600022 := by decide

theorem witness_EncodeOfDecode :
    decode 0x00FFFF22 = .ok (.flushRange 255 255) ∧ decode 0x0100FF10 = .ok (.writeText 255 0 true) := by decide

theorem witness_WireCommandRoundTrip :
    encodeWire distinctCommands .cmdWriteMultipleLines = some 0x05 ∧
    distinctCommands.cmdClear ≠ distinctCommands.cmdWriteOneLine ∧
    distinctCommands.cmdClear ≠ distinctCommands.cmdWriteMultipleLines ∧
    distinctCommands.cmdWriteOneLine ≠ distinctCommands.cmdWriteMultipleLines := by decide

theorem witness_StepRunsDecodedCommand :
    nextMove (State.reset.withFetchWord 32 0x00000030) = .mainFlow ∧
    mainFlowEnabled (State.reset.withFetchWord 32 0x00000030) = true ∧
    decode (State.reset.withFetchWord 32 0x00000030).cw = .ok .refreshConfigure := by decide

theorem witness_ReservedWordRefused :
    (commanded 0x00000023).mf = .idle ∧ (commanded 0x00000023).cwWritten = true ∧
    (commanded 0x00000023).mainFlowFree = true ∧ decode (commanded 0x00000023).cw = .error .opsel := by decide

theorem witness_InterruptsHoldMainFlow :
    { waiting with irqAdc := true }.irqAdc = true ∧ { refreshing with irqCmp := true }.irqCmp = true ∧
    waiting.toArmed = true ∧ mainFlowGuard waiting = false := by decide

theorem witness_BusEngineRunsWireCommand :
    clearing.atCommandByte = true ∧ decodeWire clearing.cfg (clearing.load .scratch 0) = some .cmdClear := by decide

theorem witness_StepKeepsInvariant :
    inv { waiting with agenda := [.adcComplete 0x9C] } = true ∧
    completes (step { waiting with agenda := [.adcComplete 0x9C] }) = true ∧
    inv { expired with agenda := [.mainFlow] } = true ∧
    completes (step { expired with agenda := [.mainFlow] }) = true := by decide

theorem witness_NoFaultUnderInvariant :
    inv { clearing with agenda := [.busByte] } = true ∧
    inv { sendingLine with busPtr := 1343, busRem := 1 } = true := by decide

theorem witness_StateInvariantsOfSpec :
    inv waiting = true ∧ waiting.busy = true ∧ waiting.adcConv = true ∧ waiting.toArmed = true ∧
    okAnd (perform .hAdc { waiting with adcConv := false, irqAdc := true }) (fun t => t.phase != waiting.phase) = true ∧
    okAnd (perform .mainFlow expired) (fun t => t.phase != expired.phase) = true ∧
    blank.mf.op ≠ some "SAMPLE" ∧ inv clearing = true ∧ clearing.busActive = true ∧
    inv refreshing = true ∧ refreshing.refConfigured = true := by decide

theorem witness_LineRecordShape : inv State.reset = true ∧ 95 ≤ 95 ∧ 0 ≤ 95 := by decide

theorem witness_VcomBitIsZero :
    Config.fixture.valid = true ∧ clearing.cfg = Config.fixture ∧ inv clearing = true ∧
    vcomBitClear clearing = true ∧ clearing.atCommandByte = true ∧
    completes (step { clearing with agenda := [.timerTick] }) = true ∧
    isTransfer (.flushLine 95) = true ∧ completes (exec (.flushLine 95) blank) = true := by decide

theorem witness_RefreshNeverStops :
    refreshing.refConfigured = true ∧ completes (step { refreshing with agenda := [.cmpMatch] }) = true ∧
    completes (exec (.ovBattery 0) refreshing) = true ∧ inv refreshing = true ∧
    inv { refreshing with timerCnt := 2054, irqCmp := true } = true := by decide

theorem witness_RefreshNeverStops_fair :
    follow compareRounds refreshing 0 = refreshing ∧ IsRun (follow compareRounds refreshing) compareRounds ∧
    WeaklyFair (follow compareRounds refreshing) compareRounds .cmpMatch ∧
    WeaklyFair (follow compareRounds refreshing) compareRounds .hCmp := by
  refine ⟨rfl, follow_isRun (fun n s => ?_) _, fun n _ => ⟨2 * n, by omega, ?_⟩, fun n _ => ⟨2 * n + 1, by omega, ?_⟩⟩
  · rcases Nat.mod_two_eq_zero_or_one n with h | h <;>
      simp only [compareRounds, h, perform, if_true, one_ne_zero, if_false] <;>
      split <;> exact ⟨_, rfl⟩
  · simp [compareRounds]
  · simp [compareRounds]

theorem witness_SingleWriters_flags :
    okAnd (perform .mainFlow { waiting with mf := .sample .arm, busy := false, toArmed := false, adcConv := false })
      (fun t => t.busy) = true ∧
    okAnd (perform .hAdc { waiting with adcConv := false, irqAdc := true }) (fun t => !t.busy) = true ∧
    okAnd (perform .toFire waiting) (fun t => t.timedOut) = true ∧
    okAnd (perform .mainFlow expired) (fun t => !t.timedOut && !t.busy) = true := by decide

theorem witness_SingleWriters_data :
    okAnd (perform .hAdc { waiting with irqAdc := true, adcResult := 1 }) (fun t => t.dest != waiting.dest) = true ∧
    okAnd (perform .mainFlow { withPay [0xFF] 1 with cw := 0x00000011, cwWritten := true }) (fun t =>
      t.fb != blank.fb) = true ∧
    okAnd (perform .mainFlow (commanded 0x00000020)) (fun t => t.scratch != blank.scratch) = true ∧
    okAnd (perform .cmpMatch refreshing) (fun t => t.vcomPin != refreshing.vcomPin) = true ∧
    okAnd (perform .mainFlow { commanded 0x00000030 with vcomPin := true }) (fun t => !t.vcomPin) = true := by decide

theorem witness_ParametersNeverChange :
    completes (step (State.reset.withFetchWord 32 0x00000030)) = true ∧
    Config.fixture.font[94]? = some (Config.testGlyph 94) ∧ 7 < 8 ∧
    Config.fixture.glyphOf 0x7E = some (Config.testGlyph 94) := by decide

theorem witness_SampleStartSequence :
    (withArgw 1).mf = .idle ∧ (withArgw 1).argw ≠ 0 ∧ (withArgw 1).busy = false ∧
    { waiting with mf := .sample .enable }.mf = .sample .enable ∧
    { waiting with mf := .sample .arm }.mf = .sample .arm ∧
    { waiting with mf := .sample .start }.mf = .sample .start := by decide

theorem witness_SampleWaits :
    waiting.mf = .sample .wait ∧ waiting.busy = true ∧ waiting.timedOut = false ∧
    { waiting with busy := false }.busy = false ∧ { waiting with timedOut := true }.timedOut = true ∧
    inv waiting = true := by decide

theorem witness_SampleWaits_fair :
    follow (fun _ => .toFire) waiting 0 = waiting ∧ IsRun (follow (fun _ => .toFire) waiting) (fun _ => .toFire) ∧
    WeaklyFair (follow (fun _ => .toFire) waiting) (fun _ => .toFire) .toFire := by
  refine ⟨rfl, follow_isRun (fun n s => ?_) _, fun n _ => ⟨n, Nat.le_refl n, rfl⟩⟩
  unfold perform
  split <;> exact ⟨_, rfl⟩

theorem witness_SampleExits :
    expired.mf = .sample .leave ∧ expired.timedOut = true ∧
    completed.mf = .sample .leave ∧ completed.timedOut = false ∧ completes (exec .sample expired) = true := by decide

theorem witness_PowerDownOnEveryExit :
    expired.mf = .sample .leave ∧ completed.mf = .sample .leave ∧
    inv State.reset = true ∧ State.reset.mf.op ≠ some "SAMPLE" := by decide

theorem witness_SampleRefusals :
    (withArgw 0).mf = .idle ∧ (withArgw 0).argw = 0 ∧
    { withArgw 1 with busy := true }.mf = .idle ∧ { withArgw 1 with busy := true }.argw ≠ 0 ∧
    { withArgw 1 with busy := true }.busy = true := by decide

theorem witness_CompletionHandler : { waiting with irqAdc := true }.irqAdc = true := by decide

theorem witness_TimeoutPrimitive :
    inv { waiting with mf := .sample .arm, busy := false, toArmed := false, adcConv := false } = true ∧
    { waiting with mf := .sample .arm }.mf = .sample .arm := by decide

theorem witness_TimeoutExpiry :
    waiting.toArmed = true ∧ { waiting with irqAdc := true }.irqAdc = true ∧
    completes (perform .hAdc { waiting with irqAdc := true }) = true := by decide

theorem witness_ConversionCompletes :
    waiting.adcEnable = true ∧ waiting.adcConv = true ∧ blank.adcEnable = false ∧ completed.adcConv = false := by
  decide

theorem witness_SampleCallOutcomes :
    (commanded 0x00000001).mf = .idle ∧ samplerQuiet (commanded 0x00000001) = true ∧
    (commanded 0x00000001).irqCmp = false ∧ (commanded 0x00000001).cwWritten = true ∧
    decode (commanded 0x00000001).cw = .ok .sample ∧ (commanded 0x00000001).argw ≠ 0 := by decide

theorem witness_SampleFrame : completes (exec .sample expired) = true := by decide

/-- The bounds of V-W7 and V-W8, V-W10; a byte without a glyph, V-W13. -/
theorem witness_WriteTextStoresGlyphs :
    (withPay [0x41] 1).mf = .idle ∧ Memory.wf .fb (withPay [0x41] 1).fb = true ∧
    (withPay [0x41] 1).cfg.hasGlyphs (withPay [0x41] 1).payload = true ∧ textFits 1 88 11 = true ∧
    textFits 12 88 0 = true ∧ textFits 1 89 0 = false ∧ textFits 2 0 11 = false ∧ textFits 0 0 0 = false ∧
    textFits 13 0 0 = false ∧ (withPay [0x7F] 1).cfg.hasGlyphs (withPay [0x7F] 1).payload = false := by decide

theorem witness_RenderingOverwrites :
    Memory.wf .fb (withPay [0x41] 1).fb = true ∧ completes (exec (.writeText 16 0 false) (withPay [0x41] 1)) = true ∧
    okAnd (exec (.writeText 16 0 false) (withPay [0x41] 1)) (fun t =>
      completes (exec (.writeText 16 0 true) { t with pay := [(0, 0x42)] })) = true ∧
    okAnd (exec (.writeRegion 95 11) (withPay [0x41] 1)) (fun t =>
      completes (exec (.writeRegion 95 11) { t with pay := [(0, 0x42)] })) = true := by decide

theorem witness_WriteRegionStoresBytes :
    (withPay [0x01] 1).mf = .idle ∧ Memory.wf .fb (withPay [0x01] 1).fb = true ∧ regionFits 1 95 11 = true ∧
    regionFits 12 0 0 = true ∧ regionFits 1 96 0 = false ∧ regionFits 2 0 11 = false ∧ regionFits 0 0 0 = false := by
  decide

theorem witness_IndexAndPadKept :
    Memory.wf .fb (withPay [0x41] 1).fb = true ∧
    completes (exec (.writeText 88 11 false) (withPay [0x41] 1)) = true := by decide

theorem witness_ClockOverlayDraws :
    (withArgw 86399).mf = .idle ∧ (withArgw 86399).argw.toNat < 86400 ∧ Config.fixture.clock.fits 8 = true ∧
    Config.fixture.hasGlyphs (clockText 86399) = true ∧ 86400 ≤ (withArgw 86400).argw.toNat := by decide

/-- V-O3. -/
theorem witness_ClockTextReadsBack :
    86399 < 86400 ∧ clockText 86399 = [0x32, 0x33, 0x3A, 0x35, 0x39, 0x3A, 0x35, 0x39] := by decide

theorem witness_BatteryOverlayDraws :
    blank.mf = .idle ∧ (100#8).toNat ≤ 100 ∧ blank.battPrev ≠ some 100 ∧ Config.fixture.battery.fits 4 = true ∧
    Config.fixture.hasGlyphs (batteryText 100) = true ∧ { blank with battPrev := some 100 }.battPrev = some 100 ∧
    completes (exec (.ovBattery 100) blank) = true ∧ 100 < (101#8).toNat := by decide

/-- V-O4, V-O6, V-O7 and the ends of the clauses. -/
theorem witness_BatteryTextShape :
    batteryText 0 = [0x20, 0x20, 0x30, 0x25] ∧ batteryText 9 = [0x20, 0x20, 0x39, 0x25] ∧
    batteryText 10 = [0x20, 0x31, 0x30, 0x25] ∧ batteryText 99 = [0x20, 0x39, 0x39, 0x25] ∧
    batteryText 100 = [0x31, 0x30, 0x30, 0x25] := by decide

theorem witness_IndicatorOverlaysDraw :
    blank.mf = .idle ∧ blank.cfg = Config.fixture ∧ Config.fixture.valid = true ∧ (0#8).toNat ≤ 1 ∧
    (1#8).toNat ≤ 1 ∧ 1 < (2#8).toNat := by decide

theorem witness_FixOverlayDraws :
    (withPay fixBytes 20).mf = .idle ∧ (withPay fixBytes 20).cfg = Config.fixture ∧
    Config.fixture.valid = true ∧ Config.fixture.hasGlyphs placeholderText = true ∧
    (withPay fixBytes 20).payLen.val = 20 ∧
    Config.fixture.hasGlyphs ((withPay fixBytes 20).payload ++ placeholderText) = true ∧
    (withPay fixBytes 19).payLen.val ≠ 20 ∧ 1 < (2#8).toNat := by decide

theorem witness_OverlaysKeepToTheirRegions :
    isOverlay (.ovConnection 1) = true ∧ Memory.wf .fb blank.fb = true ∧
    completes (exec (.ovConnection 1) blank) = true ∧ completes (exec (.ovBattery 100) blank) = true ∧
    (overlayRegions blank.cfg (.ovConnection 1)).all (fun r => !inRegion r (fbAddr 8 11)) = true ∧
    (overlayRegions blank.cfg (.ovConnection 1)).all (fun r => !inRegion r (fbAddr 8 12)) = false := by decide

theorem witness_OverlaysNeverFail :
    isOverlay .ovClock = true ∧ blank.mf = .idle ∧ completes (exec .ovClock blank) = true ∧
    refusedWith (exec .ovClock (withArgw 86400)) .operandRange = true := by decide

theorem witness_ScratchTransfersStart :
    blank.mf = .idle ∧ blank.busActive = false ∧ (0#8).toNat ≤ 95 ∧ (95#8).toNat ≤ 95 := by decide

theorem witness_RangeTransferSteps :
    0 < 96 ∧ 96 ≤ 96 ∧ (95#8).toNat < (96#8).toNat ∧ blank.mf = .idle ∧ blank.busActive = false ∧
    (flushing .wait true).mf = .flushRange .wait ∧ (flushing .wait true).busActive = true ∧
    (flushing .wait false).busActive = false ∧ (flushing .send false).mf = .flushRange .send := by decide

theorem witness_ClearScreenTransaction :
    blank.mf = .idle ∧ blank.busActive = false ∧ blank.cs = false ∧ Memory.wf .scratch blank.scratch = true := by
  decide

theorem witness_SingleLineTransaction :
    blank.mf = .idle ∧ blank.busActive = false ∧ blank.cs = false ∧ inv blank = true ∧ (95#8).toNat ≤ 95 := by decide

theorem witness_MultiLineTransaction :
    (commanded 0x00605F22).mf = .idle ∧ inv (commanded 0x00605F22) = true ∧
    (commanded 0x00605F22).busActive = false ∧ (commanded 0x00605F22).irqCmp = false ∧
    (commanded 0x00605F22).cwWritten = true ∧ decode (commanded 0x00605F22).cw = .ok (.flushRange 95 96) ∧
    (95#8).toNat < (96#8).toNat ∧ (96#8).toNat ≤ 96 := by decide

theorem witness_FlushAllIsFullRange :
    (commanded 0x00600022).mf = .idle ∧ inv (commanded 0x00600022) = true ∧
    (commanded 0x00600022).busActive = false ∧ (commanded 0x00600022).irqCmp = false ∧
    (commanded 0x00600022).cwWritten = true ∧ (commanded 0x00600022).cw = 0x00600022 := by decide

theorem witness_WaitIdleWaits :
    clearing.mf = .idle ∧ clearing.busActive = true ∧ { clearing with mf := .waitIdle }.mf = .waitIdle ∧
    blank.busActive = false ∧ inv blank = true := by decide

theorem witness_TransferRefusals :
    clearing.mf = .idle ∧ clearing.busActive = true ∧ 95 < (96#8).toNat ∧ (95#8).toNat ≤ 95 ∧
    (3#8).toNat ≤ (3#8).toNat ∧ 96 < (97#8).toNat ∧ (95#8).toNat < (96#8).toNat ∧ (96#8).toNat ≤ 96 := by decide

theorem witness_BusEngineEmits :
    clearing.busActive = true ∧ clearing.busPtr < clearing.busSrc.space.size ∧ 2 ≤ clearing.busRem ∧
    { clearing with busRem := 1 }.busRem ≤ 1 ∧ clearing.busMode = .auto ∧
    (flushing .wait true).busActive = true ∧ (flushing .wait true).busRem ≤ 1 ∧
    (flushing .wait true).busMode = .manual ∧ { clearing with busPtr := 15 }.busPtr < 16 ∧
    { clearing with busPtr := 16 }.busSrc.space.size ≤ 16 := by decide

theorem witness_BusEngineEmits_fair :
    lastByte.busActive = true ∧
    ∃ trace, trace 0 = lastByte ∧ IsRun trace (fun _ => .busByte) ∧ WeaklyFair trace (fun _ => .busByte) .busByte := by
  refine ⟨rfl, fun | 0 => lastByte | _ + 1 => lastByteSent, rfl, fun n => ?_, fun n _ => ⟨n, Nat.le_refl n, rfl⟩⟩
  cases n <;> rfl

theorem witness_SegmentCompletesInOrder :
    inv sendingLine = true ∧ sendingLine.busActive = true ∧ inv (flushing .wait true) = true ∧
    (flushing .wait true).busActive = true := by decide

theorem witness_WriteRacesBusEngine :
    sendingLine.busActive = true ∧ sendingLine.busSrc = .fb ∧ Memory.wf .fb sendingLine.fb = true ∧
    sendingLine.busPtr + sendingLine.busRem ≤ 1344 ∧ 6 + 7 ≤ sendingLine.busRem ∧ 6 < 1344 ∧
    13 + 1 ≤ sendingLine.busRem ∧ lastByte.busPtr + lastByte.busRem ≤ 1344 ∧ 0 + 1 ≤ lastByte.busRem ∧
    1343 < 1344 := by decide

theorem witness_RefreshConfigures :
    blank.mf = .idle ∧ blank.refConfigured = false ∧ refreshing.mf = .idle ∧ refreshing.refConfigured = true := by
  decide

theorem witness_CompareMatchToggles :
    { refreshing with timerCnt := 2053 }.timerCnt = { refreshing with timerCnt := 2053 }.timerCc ∧
    blank.timerCnt = blank.timerCc ∧ inv blank = true ∧ blank.refConfigured = false := by decide

theorem witness_TimerTicksAndRearms : { refreshing with irqCmp := true }.irqCmp = true ∧
    refreshing.refConfigured = true ∧ refreshing.irqCmp = false ∧ refreshing.timerCnt ≠ refreshing.timerCc := by decide

theorem witness_RefreshIndependent :
    completes (perform .toFire { refreshing with mf := .sample .wait, toArmed := true }) = true ∧
    completes (perform .cmpMatch { refreshing with mf := .sample .wait, toArmed := true }) = true ∧
    completes (perform .busByte clearing) = true ∧ completes (perform (.adcComplete 0xFF) waiting) = true ∧
    completes (perform .hAdc { waiting with irqAdc := true }) = true := by decide

theorem witness_WireCommandsSend :
    encodeWire clearing.cfg .cmdClear = some 0x04 ∧ commandStaged 0x04 clearing = true ∧ 2 ≤ clearing.busRem ∧
    commandStaged 0x04 { clearing with busRem := 1 } = true ∧ { clearing with busRem := 1 }.busMode = .auto ∧
    encodeWire (flushing .wait true).cfg .cmdWriteMultipleLines = some 0x01 ∧
    commandStaged 0x01 (flushing .wait true) = true ∧ (flushing .wait true).busRem ≤ 1 ∧
    (flushing .wait true).busMode = .manual ∧ commandStaged 0x01 clearing = false := by decide

theorem witness_HostIssuesCommand :
    inv blank = true ∧ hostEnabled blank = true ∧ (Command.sample 0xFFFFFFFF).moves.isSome = true ∧
    (Command.sample 0xFFFFFFFF).payload = none ∧ (Command.writeText [0x4F, 0x4B] 8 0 true).argw = none ∧
    (Command.writeText [0x4F, 0x4B] 8 0 true).moves =
      some [.hostPay 0 0x4F, .hostPay 1 0x4B, .hostPayLen 2, .hostCommand 0x01000810] ∧
    (Command.writeRegion (List.replicate 32 0xFF) 0 0).moves.isSome = true ∧
    (Command.writeRegion (List.replicate 33 0xFF) 0 0).moves.isSome = false := by decide

theorem witness_PowerUpValues :
    (95 : Nat) ≤ 95 ∧ (State.powerUp Config.fixture PowerUp.zero).fbByte 95 0 = 96 := by decide

theorem witness_OperationRefusals :
    (Instr.flushLine 96).wf = false ∧ blank.mf = .idle ∧ isOneStep .refreshConfigure = true ∧
    waiting.mf ≠ .idle ∧ waiting.mf.op = some "SAMPLE" ∧ (flushing .wait true).mf.op = some "FLUSH_RANGE" ∧
    { clearing with mf := .waitIdle }.mf.op = some "WAIT_IDLE" ∧ (95#8).toNat < (96#8).toNat ∧
    (96#8).toNat ≤ 96 := by decide

end Sys2Proof.Tests
end

section
/-! SUPPORT. Runs of the bus engine in closed form (R63, R211, R214), and the statements about segments. -/

namespace Sys2Proof.Machine

/-- A run of two lists of moves is a run of the second from where the first ends. -/
theorem runMoves_append (ms ms' : List Move) (s : State) :
    runMoves (ms ++ ms') s = andThen (runMoves ms s) (runMoves ms') := by
  induction ms generalizing s with
  | nil => rfl
  | cons m ms ih => cases h : perform m s <;> simp [runMoves, h, ih]

@[simp] theorem State.loadBytes_zero (s : State) (sp : Space) (a : Nat) : s.loadBytes sp a 0 = [] := rfl

theorem State.loadBytes_succ (s : State) (sp : Space) (a n : Nat) :
    s.loadBytes sp a (n + 1) = s.loadBytes sp a n ++ [s.load sp (a + n)] := by
  simp [State.loadBytes, List.range_succ]

/-- The events that follow `n` bytes of the segment: the release, where they end an `Auto` segment (R211, R214). -/
def State.releaseAfter (s : State) (n : Nat) : List WireEvent :=
  if 0 < n ∧ n = s.busRem ∧ s.busMode = .auto then [.csRelease] else []

/-- The state after `n` steps of the bus engine on an active segment that has as many bytes left (R63, R211). -/
def State.afterBytes (s : State) (n : Nat) : State :=
  { s with
    wire := s.wire ++ (s.loadBytes s.busSrc.space s.busPtr n).map .byte ++ s.releaseAfter n
    busPtr := s.busPtr + n
    busRem := s.busRem - n
    busActive := s.busActive && (n = 0 || n < s.busRem)
    cs := s.cs && !(0 < n && n = s.busRem && s.busMode = .auto) }

@[simp] theorem State.afterBytes_zero (s : State) : s.afterBytes 0 = s := by
  simp [State.afterBytes, State.releaseAfter]

theorem State.load_afterBytes (s : State) (n : Nat) (sp : Space) (a : Nat) :
    (s.afterBytes n).load sp a = s.load sp a := by
  cases sp <;> rfl

theorem State.wire_afterBytes (s : State) (n : Nat) :
    (s.afterBytes n).wire = s.wire ++ (s.loadBytes s.busSrc.space s.busPtr n).map .byte ++ s.releaseAfter n := rfl

/-- Before its last byte the segment is active and nothing is released. -/
theorem State.afterBytes_of_lt {s : State} {n : Nat} (h : n < s.busRem) :
    s.afterBytes n = { s with
      wire := s.wire ++ (s.loadBytes s.busSrc.space s.busPtr n).map .byte
      busPtr := s.busPtr + n
      busRem := s.busRem - n } := by
  simp [State.afterBytes, State.releaseAfter, h, h.ne]

/-- One more step of the bus engine sends one more byte. -/
theorem busByte_afterBytes {s : State} {n : Nat} (active : s.busActive = true) (left : n < s.busRem)
    (inside : s.busPtr + n < s.busSrc.space.size) : busByte (s.afterBytes n) = .next (s.afterBytes (n + 1)) := by
  have last : s.busRem - n ≤ 1 ↔ n + 1 = s.busRem := by omega
  have more : 2 ≤ s.busRem - n ↔ n + 1 < s.busRem := by omega
  rw [busByte_eq_next, State.load_afterBytes, State.afterBytes_of_lt left]
  refine ⟨inside, ?_⟩
  simp [State.afterBytes, State.releaseAfter, State.loadBytes_succ, last, more, active, Nat.sub_sub, Nat.add_assoc]

/-- The bus engine's steps on an active segment, as many as it has bytes left or fewer. -/
theorem runMoves_busByte {s : State} {n : Nat} (active : 0 < n → s.busActive = true) (left : n ≤ s.busRem)
    (inside : s.busPtr + n ≤ s.busSrc.space.size) :
    runMoves (List.replicate n .busByte) s = .next (s.afterBytes n) := by
  induction n with
  | zero => simp [runMoves]
  | succ n ih =>
    have active := active n.succ_pos
    have stays : (s.afterBytes n).busActive = true := by simp [State.afterBytes_of_lt left, active]
    have one : runMoves [.busByte] (s.afterBytes n) = .next (s.afterBytes (n + 1)) := by
      simp [runMoves, perform, enabled, agentStep, stays, busByte_afterBytes active left inside]
    rw [List.replicate_succ', runMoves_append, ih (fun _ => active) (by omega) (by omega), andThen_next, one]

theorem State.releaseAfter_of_lt {s : State} {n : Nat} (h : n < s.busRem) : s.releaseAfter n = [] := by
  simp [State.releaseAfter, h.ne]

@[simp] theorem wireBits_releaseAfter (s : State) (n : Nat) : wireBits (s.releaseAfter n) = [] := by
  unfold State.releaseAfter
  split <;> rfl

/-- An active segment has bytes left, all inside its space (R39). -/
theorem segment_of_inv {s : State} (h : inv s = true) (active : s.busActive = true) :
    1 ≤ s.busRem ∧ s.busPtr + s.busRem ≤ s.busSrc.space.size := by
  have bus : busInv s = true := by simp_all [inv]
  have segment : segmentInside s = true := by simp_all [busInv]
  simpa [segmentInside, active] using segment

/-- Settles O51: the closed form of the bus engine's run, at all the bytes the segment has. -/
theorem segmentCompletesInOrder : Obligations.SegmentCompletesInOrder := by
  intro s h active
  obtain ⟨left, inside⟩ := segment_of_inv h active
  refine ⟨s.afterBytes s.busRem, runMoves_busByte (fun _ => active) (Nat.le_refl _) inside, ?_, ?_, ?_⟩
  · simp [State.afterBytes]; omega
  · rw [State.wire_afterBytes, State.releaseAfter]
    simp only [show 0 < s.busRem from left, true_and]
  · rw [State.wire_afterBytes, wireBits_append, wireBits_append, wireBits_bytes,
      wireBits_releaseAfter, List.append_nil]
    rfl

/-- After a store into FB every byte of FB reads as before, but for the one stored. -/
theorem State.load_storeFb_one {s : State} (canonical : Memory.wf .fb s.fb = true) (a : Nat) (b : Byte) (x : Nat) :
    (s.storeFb [(a, b)]).load .fb x = if x = a then b else s.load .fb x :=
  Memory.read_write canonical a b x

/-- The bytes on the wire when `b` is stored at `a` between the first `n` bytes and the next `k` (R72): those from `n`
on are read after the store. -/
theorem loadBytes_race {s t : State} {b : Byte} {a p n k : Nat}
    (new : ∀ x, t.load .fb x = if x = a then b else s.load .fb x) :
    (s.loadBytes .fb p n).map WireEvent.byte ++ (t.loadBytes .fb (p + n) k).map .byte =
      (List.range (n + k)).map fun j => .byte (if p + j = a ∧ n ≤ j then b else s.load .fb (p + j)) := by
  simp only [State.loadBytes, List.range_add, List.map_append, List.map_map]
  congr 1
  · refine List.map_congr_left fun j hj => ?_
    have passed : j < n := List.mem_range.mp hj
    simp [Nat.not_le.mpr passed]
  · refine List.map_congr_left fun j _ => ?_
    simp [new, Nat.add_assoc]

/-- The wire after `n` bytes, stores into FB, and `k` more bytes: the release comes where it would have come without the
stores. -/
theorem wire_race {s : State} {cells : List Host.Cell} {n k : Nat} (left : n + k ≤ s.busRem) :
    (((s.afterBytes n).storeFb cells).afterBytes k).wire =
      s.wire ++ ((s.loadBytes s.busSrc.space s.busPtr n).map .byte ++
        (((s.afterBytes n).storeFb cells).loadBytes s.busSrc.space (s.busPtr + n) k).map .byte) ++
        s.releaseAfter (n + k) := by
  rcases Nat.eq_zero_or_pos k with rfl | more
  · simp [State.wire_afterBytes]
  · have none_yet : s.releaseAfter n = [] := State.releaseAfter_of_lt (by omega)
    have last : k = s.busRem - n ↔ n + k = s.busRem := by omega
    have release : ((s.afterBytes n).storeFb cells).releaseAfter k = s.releaseAfter (n + k) := by
      simp [State.releaseAfter, State.afterBytes, more, last]
    rw [State.wire_afterBytes, release, State.storeFb_wire, State.wire_afterBytes, none_yet]
    simp [State.afterBytes]

/-- Settles O52: the closed form of the bus engine's run before the store and after it. -/
theorem writeRacesBusEngine : Obligations.WriteRacesBusEngine := by
  intro s n k a b active fromFb canonical inside left _
  have size : s.busSrc.space.size = 1344 := by rw [fromFb]; rfl
  have stored : ∀ x, ((s.afterBytes n).storeFb [(a, b)]).load .fb x = if x = a then b else s.load .fb x :=
    State.load_storeFb_one (s := s.afterBytes n) canonical a b
  refine ⟨s.afterBytes n, ((s.afterBytes n).storeFb [(a, b)]).afterBytes k,
    runMoves_busByte (fun _ => active) (by omega) (by omega), runMoves_busByte (fun more => ?_) ?_ ?_, ?_⟩
  · simp [State.afterBytes_of_lt (show n < s.busRem by omega), active]
  · show k ≤ s.busRem - n
    omega
  · show s.busPtr + n + k ≤ s.busSrc.space.size
    omega
  · rw [wire_race left, fromFb, BusSource.space, loadBytes_race stored]
    rfl

end Sys2Proof.Machine
end

section
/-! SUPPORT. What each operation and each agent can change (the frames of R71), and the statement about who writes
what. -/

namespace Sys2Proof.Machine

/-- A drawing operation changes FB and the battery cache, and ends (R171, R173, R190 to R196). -/
def DrawsOnly (s t : State) : Prop :=
  t = { s with fb := t.fb, battPrev := t.battPrev, resStatus := 0, mf := .idle }

/-- A transfer operation changes SCRATCH, the bus, the wire and its own position and outcome (R210 to R219). -/
def TransfersOnly (s t : State) : Prop :=
  t = { s with
    scratch := t.scratch, mf := t.mf, resStatus := t.resStatus, busActive := t.busActive, busSrc := t.busSrc,
    busPtr := t.busPtr, busRem := t.busRem, busMode := t.busMode, cs := t.cs, wire := t.wire }

/-- A text drawn at a fixed place is a list of stores into FB (R171, R190). -/
theorem renderAt_stores {text : List Byte} {p : Place} {inverted : Bool} {s t : State}
    (h : renderAt text p inverted s = .next t) : ∃ cells, t = s.storeFb cells := by
  obtain ⟨-, cells, -, rfl⟩ := renderText_eq_next.mp h
  exact ⟨cells, rfl⟩

/-- A text drawn before a drawing operation goes on is part of it. -/
theorem DrawsOnly.of_renderAt {text : List Byte} {p : Place} {inverted : Bool} {s t u : State} (rest : DrawsOnly u t)
    (h : renderAt text p inverted s = .next u) : DrawsOnly s t := by
  obtain ⟨cells, rfl⟩ := renderAt_stores h
  exact rest

/-- A text drawn as the whole operation. -/
theorem renderAt_finish_drawsOnly {text : List Byte} {p : Place} {inverted : Bool} {s t : State}
    (h : andThen (renderAt text p inverted s) (fun u => .next u.finish) = .next t) : DrawsOnly s t := by
  obtain ⟨u, drawn, done⟩ := andThen_eq_next.mp h
  obtain ⟨cells, rfl⟩ := renderAt_stores drawn
  cases done
  rfl

theorem execWriteText_drawsOnly {line col : Byte} {inverted : Bool} {s t : State}
    (h : execWriteText line col inverted s = .next t) : DrawsOnly s t :=
  renderAt_finish_drawsOnly (p := ⟨line.toNat, col.toNat⟩) (whenIdle_eq_next.mp h).2

theorem execWriteRegion_drawsOnly {line col : Byte} {s t : State}
    (h : execWriteRegion line col s = .next t) : DrawsOnly s t := by
  have body := (whenIdle_eq_next.mp h).2
  split at body
  · cases body
    rfl
  · cases body

theorem execOvClock_drawsOnly {s t : State} (h : execOvClock s = .next t) : DrawsOnly s t := by
  have body := (whenIdle_eq_next.mp h).2
  split at body
  · exact renderAt_finish_drawsOnly body
  · cases body

theorem execOvBattery_drawsOnly {pct : Byte} {s t : State} (h : execOvBattery pct s = .next t) : DrawsOnly s t := by
  have body := (whenIdle_eq_next.mp h).2
  split at body
  · split at body
    · cases body
      rfl
    · obtain ⟨u, drawn, done⟩ := andThen_eq_next.mp body
      obtain ⟨cells, rfl⟩ := renderAt_stores drawn
      cases done
      rfl
  · cases body

theorem drawIndicator_drawsOnly {on : Byte} {p : Place} {inverted : Bool} {onText offText : List Byte} {s t : State}
    (h : drawIndicator on p inverted onText offText s = .next t) : DrawsOnly s t := by
  unfold drawIndicator at h
  split at h
  · exact renderAt_finish_drawsOnly h
  · cases h

theorem drawFix_drawsOnly {latText latInd lonText lonInd : List Byte} {s t : State}
    (h : drawFix latText latInd lonText lonInd s = .next t) : DrawsOnly s t := by
  simp only [drawFix, andThen_eq_next] at h
  obtain ⟨u, lat, v, latI, w, lon, x, lonI, done⟩ := h
  have last : DrawsOnly w t := renderAt_finish_drawsOnly (andThen_eq_next.mpr ⟨x, lonI, done⟩)
  exact ((last.of_renderAt lon).of_renderAt latI).of_renderAt lat

theorem execOvFix_drawsOnly {fix : Byte} {s t : State} (h : execOvFix fix s = .next t) : DrawsOnly s t := by
  have body := (whenIdle_eq_next.mp h).2
  split at body
  · exact drawFix_drawsOnly body
  · split at body
    · exact drawFix_drawsOnly body
    · cases body

/-- Starting a segment changes the bus and the wire only (R210). -/
theorem State.withSegment_transfersOnly (s : State) (src : BusSource) (addr n : Nat) (mode : CsMode) :
    TransfersOnly s (s.withSegment src addr n mode) := by
  unfold State.withSegment State.assertCs
  split <;> rfl

/-- The outcome and the position are among what a transfer operation may change. -/
theorem TransfersOnly.ends {s t : State} (h : TransfersOnly s t) (status : Byte) (mf : MainFlow) :
    TransfersOnly s { t with resStatus := status, mf := mf } := by
  unfold TransfersOnly at h ⊢
  rw [h]

/-- Starting a segment on bytes staged in SCRATCH changes what a transfer operation may change (R35, R210). -/
theorem transferAsync_stage_transfersOnly {src : BusSource} {addr n : Nat} {mode : CsMode} {bytes : List Byte}
    {s t : State} (h : transferAsync src addr n mode (s.stage bytes) = .next t) : TransfersOnly s t := by
  obtain ⟨-, -, rfl⟩ := transferAsync_eq_next.mp h
  exact (s.stage bytes).withSegment_transfersOnly src addr n mode

theorem execClearScreen_transfersOnly {s t : State} (h : execClearScreen s = .next t) : TransfersOnly s t := by
  obtain ⟨u, started, done⟩ := andThen_eq_next.mp (whenIdle_eq_next.mp h).2
  cases done
  exact (transferAsync_stage_transfersOnly started).ends 0 .idle

theorem execFlushLine_transfersOnly {index : Byte} {s t : State} (h : execFlushLine index s = .next t) :
    TransfersOnly s t := by
  have body := (whenIdle_eq_next.mp h).2
  split at body
  · obtain ⟨u, started, done⟩ := andThen_eq_next.mp body
    cases done
    exact (transferAsync_stage_transfersOnly started).ends 0 .idle
  · cases body

theorem flushLines_transfersOnly {start stop : Nat} {s t : State} (h : flushLines start stop s = .next t) :
    TransfersOnly s t := by
  unfold flushLines at h
  split at h
  · split at h
    · obtain ⟨u, started, done⟩ := andThen_eq_next.mp h
      cases done
      exact (transferAsync_stage_transfersOnly started).ends u.resStatus (.flushRange .wait)
    · split at h <;> cases h <;> rfl
    · obtain ⟨u, started, done⟩ := andThen_eq_next.mp h
      obtain ⟨-, -, rfl⟩ := transferAsync_eq_next.mp started
      cases done
      exact (s.withSegment_transfersOnly _ _ _ _).ends 0 .idle
    · cases h
    · cases h
  · cases h

theorem execWaitIdle_transfersOnly {s t : State} (h : execWaitIdle s = .next t) : TransfersOnly s t := by
  unfold execWaitIdle at h
  split at h
  · split at h <;> cases h <;> rfl
  · split at h <;> cases h <;> rfl
  · cases h
  · cases h

/-- The bus engine's step is part of a transfer (R211). -/
theorem busByte_transfersOnly {s t : State} (h : busByte s = .next t) : TransfersOnly s t := by
  obtain ⟨-, rfl⟩ := busByte_eq_next.mp h
  rfl

theorem sendCommand_transfersOnly {b : Byte} {s t : State} (h : sendCommand b s = .next t) : TransfersOnly s t := by
  unfold sendCommand at h
  split at h
  · exact busByte_transfersOnly h
  · cases h

/-- Everything an operation can do: it draws, it transfers, or it is SAMPLE or REFRESH_CONFIGURE. -/
theorem exec_changes {i : Instr} {s t : State} (h : exec i s = .next t) :
    DrawsOnly s t ∨ TransfersOnly s t ∨ (i = .sample ∧ execSample s = .next t) ∨
      (i = .refreshConfigure ∧ execRefreshConfigure s = .next t) := by
  cases i with
  | sample => exact .inr (.inr (.inl ⟨rfl, h⟩))
  | refreshConfigure => exact .inr (.inr (.inr ⟨rfl, h⟩))
  | writeText => exact .inl (execWriteText_drawsOnly h)
  | writeRegion => exact .inl (execWriteRegion_drawsOnly h)
  | ovClock => exact .inl (execOvClock_drawsOnly h)
  | ovBattery => exact .inl (execOvBattery_drawsOnly h)
  | ovConnection => exact .inl (drawIndicator_drawsOnly (whenIdle_eq_next.mp h).2)
  | ovSampling => exact .inl (drawIndicator_drawsOnly (whenIdle_eq_next.mp h).2)
  | ovFix => exact .inl (execOvFix_drawsOnly h)
  | clearScreen => exact .inr (.inl (execClearScreen_transfersOnly h))
  | flushLine => exact .inr (.inl (execFlushLine_transfersOnly h))
  | flushRange => exact .inr (.inl (flushLines_transfersOnly h))
  | flushAll => exact .inr (.inl (flushLines_transfersOnly (start := 0) (stop := 96) h))
  | waitIdle => exact .inr (.inl (execWaitIdle_transfersOnly h))
  | cmdClear | cmdWriteOneLine | cmdWriteMultipleLines => exact .inr (.inl (sendCommand_transfersOnly h))

/-- What SAMPLE's steps can do (R131 to R133): step 3 sets `busy`, the exit clears both flags, the others touch
neither; `DEST` and the pin stay. -/
theorem execSample_flags {s t : State} (h : execSample s = .next t) :
    t.dest = s.dest ∧ t.vcomPin = s.vcomPin ∧
      (s.mf = .sample .arm ∧ t.busy = true ∧ t.timedOut = s.timedOut ∨
        s.mf = .sample .leave ∧ t.busy = false ∧ t.timedOut = false ∨
        t.busy = s.busy ∧ t.timedOut = s.timedOut) := by
  unfold execSample at h
  cases mf : s.mf with
  | idle =>
    simp only [mf] at h
    split at h
    · cases h
    · split at h
      · cases h
      · cases h
        simp
  | sample position =>
    cases position with simp only [mf] at h
    | enable | arm | start =>
      cases h
      simp
    | wait => split at h <;> cases h <;> simp
    | leave =>
      cases h
      unfold State.leaveSample
      split <;> simp [State.leaveTimedOut, State.leaveWithSample]
  | flushRange | waitIdle =>
    simp only [mf] at h
    cases h

/-- REFRESH_CONFIGURE runs on an unconfigured chain, configures it, and leaves both flags and `DEST` (R241). -/
theorem execRefreshConfigure_flags {s t : State} (h : execRefreshConfigure s = .next t) :
    t.busy = s.busy ∧ t.timedOut = s.timedOut ∧ t.dest = s.dest ∧ s.refConfigured = false ∧
      t.refConfigured = true := by
  have body := (whenIdle_eq_next.mp h).2
  split at body
  · cases body
  · next fresh =>
    cases body
    simpa using fresh

/-- What a step of the main flow writes of what R71 speaks of, the buffers aside. -/
theorem mainFlowStep_writes {s t : State} (h : mainFlowStep s = .next t) :
    t.dest = s.dest ∧
      (s.mf = .sample .arm ∧ t.busy = true ∧ t.timedOut = s.timedOut ∨
        s.mf = .sample .leave ∧ t.busy = false ∧ t.timedOut = false ∨
        t.busy = s.busy ∧ t.timedOut = s.timedOut) ∧
      (t.vcomPin ≠ s.vcomPin →
        decode s.cw = .ok .refreshConfigure ∧ s.refConfigured = false ∧ t.refConfigured = true) := by
  unfold mainFlowStep at h
  split at h
  · next i word =>
    rcases exec_changes h with draws | transfers | ⟨-, sample⟩ | ⟨rfl, configure⟩
    · rw [draws]
      simp
    · rw [transfers]
      simp
    · obtain ⟨dest, pin, flags⟩ := execSample_flags sample
      exact ⟨dest, flags, fun changed => absurd pin changed⟩
    · obtain ⟨busy, timedOut, dest, fresh, configured⟩ := execRefreshConfigure_flags configure
      exact ⟨dest, .inr (.inr ⟨busy, timedOut⟩), fun _ => ⟨word, fresh, configured⟩⟩
  · cases h

/-- What the other agents write of it: the completion handler `busy` and `DEST`, the expiry `timed_out`, the compare
event the pin. -/
theorem agentStep_writes {m : Move} {s t : State} (h : agentStep s m = .next t) :
    t.fb = s.fb ∧ t.scratch = s.scratch ∧
      (t.busy ≠ s.busy → m = .hAdc ∧ t.busy = false) ∧
      (t.timedOut ≠ s.timedOut → m = .toFire ∧ t.timedOut = true) ∧
      (t.dest ≠ s.dest → m = .hAdc) ∧
      (t.vcomPin ≠ s.vcomPin → m = .cmpMatch) := by
  cases m with
  | busByte =>
    obtain ⟨-, rfl⟩ := busByte_eq_next.mp h
    simp
  | hAdc | toFire | cmpMatch =>
    cases h
    simp [takeInterrupt, cmpMatch]
  | mainFlow | adcComplete | hCmp | timerTick | hostArgw | hostPay | hostPayLen | hostCommand =>
    cases h
    simp [takeInterrupt, adcComplete, timerTick, hostCommand]

/-- A move whose agent has a step is a step of the main flow or of another agent; one without leaves the state (R266,
log 2). -/
theorem perform_cases {m : Move} {s t : State} (h : perform m s = .next t) :
    enabled s m = true ∧ m = .mainFlow ∧ mainFlowStep s = .next t ∨
      enabled s m = true ∧ m ≠ .mainFlow ∧ agentStep s m = .next t ∨ enabled s m = false ∧ t = s := by
  unfold perform at h
  split at h
  · next can =>
    split at h
    · exact .inl ⟨can, rfl, h⟩
    · next other => exact .inr (.inl ⟨can, other, h⟩)
  · next cannot =>
    cases h
    exact .inr (.inr ⟨by simpa using cannot, rfl⟩)

/-- Settles O17: one case for the main flow, one for the other agents, one for a move without a step. -/
theorem singleWriters : Obligations.SingleWriters := by
  intro m s t h
  rcases perform_cases h with ⟨-, rfl, main⟩ | ⟨-, -, agent⟩ | ⟨-, rfl⟩
  · obtain ⟨dest, flags, pin⟩ := mainFlowStep_writes main
    rcases flags with ⟨mf, busy, timedOut⟩ | ⟨mf, busy, timedOut⟩ | ⟨busy, timedOut⟩
    all_goals simp_all
  · obtain ⟨fb, scratch, busy, timedOut, dest, pin⟩ := agentStep_writes agent
    refine ⟨fun old new => ?_, fun old new => .inl (busy (by simp [old, new])).1,
      fun old new => (timedOut (by simp [old, new])).1, fun old new => ?_, dest,
      fun ne => absurd fb ne, fun ne => absurd scratch ne, fun ne => .inl (pin ne)⟩
    · have cleared : t.busy = false := (busy (by simp [old, new])).2
      simp [new] at cleared
    · have set : t.timedOut = true := (timedOut (by simp [old, new])).2
      simp [new] at set
  · simp +contextual

end Sys2Proof.Machine
end

section
/-! SUPPORT. What a whole transaction puts on the wire (R90 to R93): a line record read from FB, bytes staged in SCRATCH
and sent as one `Auto` segment, and the two segments of a multi-line transaction. -/

namespace Sys2Proof.Machine

/-- The bytes at `m + n` consecutive addresses are the first `m` and then the next `n`. -/
theorem State.loadBytes_add (s : State) (sp : Space) (a m n : Nat) :
    s.loadBytes sp a (m + n) = s.loadBytes sp a m ++ s.loadBytes sp (a + m) n := by
  simp [State.loadBytes, List.range_add, Nat.add_assoc]

theorem State.loadBytes_one (s : State) (sp : Space) (a : Nat) : s.loadBytes sp a 1 = [s.load sp a] := rfl

/-- What is read depends on nothing but the space's memory. -/
theorem State.loadBytes_of_mem {s t : State} {sp : Space} (h : t.mem sp = s.mem sp) (a n : Nat) :
    t.loadBytes sp a n = s.loadBytes sp a n := by
  simp only [State.loadBytes, State.load, h]

/-- Bytes staged in SCRATCH are read back from its start (R35). -/
theorem State.loadBytes_stage {s : State} {bytes : List Byte} (canonical : Memory.wf .scratch s.scratch = true)
    (fits : bytes.length ≤ 16) : (s.stage bytes).loadBytes .scratch 0 bytes.length = bytes := by
  refine List.ext_getElem (by simp [State.loadBytes]) fun k _ hk => ?_
  have stored : (0 + k, bytes[k]) ∈ cellsFrom 0 bytes := mem_cellsFrom.mpr ⟨k, rfl, List.getElem?_eq_getElem hk⟩
  have room : 0 + bytes.length ≤ Space.scratch.size := by simpa [Space.size] using fits
  simpa [State.loadBytes, State.load, State.mem] using
    Memory.read_writeAll_mem canonical (cellsFrom_inside room) (nodup_cellsFrom 0 bytes) stored

/-- A move that answers a next state hands it to the rest of the run. -/
theorem runMoves_cons {m : Move} {s t : State} (h : perform m s = .next t) (ms : List Move) :
    runMoves (m :: ms) s = runMoves ms t := by
  rw [runMoves, h, andThen_next]

/-! ### Line records -/

/-- Under the invariant every line has its index byte and its pad byte (R34). -/
theorem fbByte_frame_of_inv {s : State} (h : inv s = true) {p : Nat} (hp : p ≤ 95) :
    s.fbByte p 0 = BitVec.ofNat 8 (p + 1) ∧ s.fbByte p 13 = 0 := by
  have frame : frameInv s = true := by simp_all [inv]
  have framed : lineFramed s p = true := List.all_eq_true.mp frame p (List.mem_range.mpr (by omega))
  simpa [lineFramed] using framed

/-- The bytes of a line before its pad: the index byte and the twelve data bytes (R90). -/
theorem loadBytes_line_of_inv {s : State} (h : inv s = true) {p : Nat} (hp : p ≤ 95) :
    s.loadBytes .fb (fbAddr p 0) 13 = BitVec.ofNat 8 (p + 1) :: s.loadBytes .fb (fbAddr p 1) 12 := by
  rw [State.loadBytes_add s .fb (fbAddr p 0) 1 12, State.loadBytes_one]
  exact congrArg (· :: _) (fbByte_frame_of_inv h hp).1

/-- Settles O14: the record is the line's first thirteen bytes and its pad. -/
theorem lineRecordShape : Obligations.LineRecordShape := by
  intro s p h hp
  have pad : s.load .fb (fbAddr p 0 + 13) = 0x00 := (fbByte_frame_of_inv h hp).2
  rw [State.lineRecord, State.loadBytes_succ, loadBytes_line_of_inv h hp, pad, List.cons_append]

/-! ### Transactions staged in SCRATCH -/

/-- The transfer primitive and the end of an operation write no memory. -/
@[simp] theorem State.mem_withSegment (s : State) (src : BusSource) (addr n : Nat) (mode : CsMode) (sp : Space) :
    (s.withSegment src addr n mode).mem sp = s.mem sp := by
  cases sp <;> simp [State.mem]

/-- Under the invariant SCRATCH is in canonical form. -/
theorem scratch_canonical_of_inv {s : State} (h : inv s = true) : Memory.wf .scratch s.scratch = true := by
  have memory : memoryInv s = true := by simp_all [inv]
  simp_all [memoryInv]

/-- A whole segment of `n` bytes on the wire: the assertion if `CS` was released, the bytes, and the release if the
segment is an `Auto` one (R210, R211, R214). -/
theorem wire_wholeSegment (s : State) (src : BusSource) (addr : Nat) {n : Nat} (nonempty : 0 < n) (mode : CsMode) :
    ((s.withSegment src addr n mode).afterBytes n).wire =
      (if s.cs then s.wire else s.wire ++ [.csAssert]) ++ (s.loadBytes src.space addr n).map .byte ++
        if mode = .auto then [.csRelease] else [] := by
  simp [State.wire_afterBytes, State.releaseAfter, nonempty,
    State.loadBytes_of_mem (s.mem_withSegment src addr n mode src.space)]

/-- The bus engine's run over a whole segment, in the closed form `State.afterBytes`. -/
theorem runMoves_wholeSegment (s : State) {src : BusSource} {addr n : Nat} (mode : CsMode)
    (inside : addr + n ≤ src.space.size) :
    runMoves (List.replicate n .busByte) (s.withSegment src addr n mode) =
      .next ((s.withSegment src addr n mode).afterBytes n) :=
  runMoves_busByte (fun _ => by simp) (by simp) (by simpa using inside)

/-- After the whole segment the bus is idle. -/
theorem busActive_wholeSegment (s : State) (src : BusSource) (addr : Nat) {n : Nat} (nonempty : 0 < n) (mode : CsMode) :
    ((s.withSegment src addr n mode).afterBytes n).busActive = false := by
  simp [State.afterBytes, nonempty.ne']

/-- Whether the operation ends before or after the segment starts makes no difference to the state. -/
theorem State.finish_withSegment (s : State) (src : BusSource) (addr n : Nat) (mode : CsMode) :
    (s.withSegment src addr n mode).finish = s.finish.withSegment src addr n mode := by
  cases h : s.cs <;> simp [State.withSegment, State.assertCs, State.emit, State.finish, h]

/-- Staging bytes does not make the bus busy: their segment starts. -/
theorem transferAsync_stage {s : State} (idle : s.busActive = false) (bytes : List Byte) {n : Nat} (nonempty : n ≠ 0)
    (mode : CsMode) :
    transferAsync .scratch 0 n mode (s.stage bytes) = .next ((s.stage bytes).withSegment .scratch 0 n mode) :=
  transferAsync_idle (s := s.stage bytes) idle .scratch 0 nonempty mode

/-- CLEAR_SCREEN on an idle bus (R215). -/
theorem exec_clearScreen_idle {s : State} (atRest : s.mf = .idle) (idle : s.busActive = false) :
    exec .clearScreen s = .next ((s.stage (clearBytes s)).finish.withSegment .scratch 0 2 .auto) := by
  rw [exec, execClearScreen, whenIdle_idle atRest, transferAsync_stage idle _ (by decide), andThen_next,
    State.finish_withSegment]

/-- FLUSH_LINE on an idle bus (R216). -/
theorem exec_flushLine_idle {s : State} {i : Byte} (atRest : s.mf = .idle) (idle : s.busActive = false)
    (line : i.toNat ≤ 95) : exec (.flushLine i) s =
      .next ((s.stage (singleLineBytes s i.toNat)).finish.withSegment .scratch 0 16 .auto) := by
  rw [exec, execFlushLine, whenIdle_idle atRest, if_pos line, transferAsync_stage idle _ (by decide),
    andThen_next, State.finish_withSegment]

/-- A transaction staged in SCRATCH goes out whole: its bytes in order, under one assertion and one release (R211,
R214). -/
theorem scratchTransaction {s : State} {bytes : List Byte} (released : s.cs = false)
    (canonical : Memory.wf .scratch s.scratch = true) (nonempty : 0 < bytes.length) (fits : bytes.length ≤ 16) :
    ∃ u, runMoves (List.replicate bytes.length .busByte)
        ((s.stage bytes).finish.withSegment .scratch 0 bytes.length .auto) = .next u ∧
      u.wire = s.wire ++ .csAssert :: (bytes.map .byte ++ [.csRelease]) ∧ u.busActive = false := by
  have staged : (s.stage bytes).finish.loadBytes .scratch 0 bytes.length = bytes :=
    (State.loadBytes_of_mem (s := s.stage bytes) rfl 0 _).trans (State.loadBytes_stage canonical fits)
  refine ⟨_, runMoves_wholeSegment _ .auto ?_, ?_, busActive_wholeSegment _ _ _ nonempty _⟩
  · simpa [BusSource.space, Space.size] using fits
  · rw [wire_wholeSegment _ _ _ nonempty]
    simp [released, BusSource.space, staged]

/-- Settles O44: two bytes staged in SCRATCH, sent whole. -/
theorem clearScreenTransaction : Obligations.ClearScreenTransaction := by
  intro s atRest idle released canonical
  obtain ⟨u, sent, wire, ended⟩ :=
    scratchTransaction (bytes := clearBytes s) released canonical (by simp [clearBytes]) (by simp [clearBytes])
  exact ⟨_, u, exec_clearScreen_idle atRest idle, sent, wire, ended⟩

/-- Under the invariant the bytes FLUSH_LINE stages are the command, the line's index byte, its data and two pads
(R92). -/
theorem singleLineBytes_of_inv {s : State} (h : inv s = true) {p : Nat} (hp : p ≤ 95) :
    singleLineBytes s p = s.cfg.cmdWriteOneLine :: BitVec.ofNat 8 (p + 1) ::
      (s.loadBytes .fb (fbAddr p 1) 12 ++ [0x00, 0x00]) := by
  rw [singleLineBytes, loadBytes_line_of_inv h hp, List.cons_append]

/-- Settles O45: sixteen bytes staged in SCRATCH, sent whole. -/
theorem singleLineTransaction : Obligations.SingleLineTransaction := by
  intro s i atRest idle released h line
  have sixteen : (singleLineBytes s i.toNat).length = 16 := by simp [singleLineBytes, State.loadBytes]
  obtain ⟨u, sent, wire, ended⟩ :=
    scratchTransaction (bytes := singleLineBytes s i.toNat) released (scratch_canonical_of_inv h) (by omega) (by omega)
  rw [sixteen] at sent
  rw [singleLineBytes_of_inv h line] at wire
  exact ⟨_, u, exec_flushLine_idle atRest idle line, sent, wire, ended⟩

/-! ### The multi-line transaction -/

/-- The main flow stands at `mf`, everything else as before. -/
def State.standAt (s : State) (mf : MainFlow) : State := { s with mf := mf }

theorem State.standAt_withSegment (s : State) (mf : MainFlow) (src : BusSource) (addr n : Nat) (mode : CsMode) :
    (s.withSegment src addr n mode).standAt mf = (s.standAt mf).withSegment src addr n mode := by
  cases h : s.cs <;> simp [State.withSegment, State.assertCs, State.emit, State.standAt, h]

section
variable {s : State} {start stop : Nat} (range : start < stop ∧ stop ≤ 96)
include range

/-- The first step of a flush of lines: the command byte is staged and its `Manual` segment starts (R217). -/
theorem flushLines_idle (atRest : s.mf = .idle) (idle : s.busActive = false) : flushLines start stop s =
    .next (((s.stage [s.cfg.cmdWriteMultipleLines]).standAt (.flushRange .wait)).withSegment .scratch 0 1 .manual) := by
  rw [← State.standAt_withSegment]
  simp only [flushLines, if_pos range, atRest]
  rw [transferAsync_stage idle _ Nat.one_ne_zero, andThen_next, State.standAt]

/-- The second step, once the command segment is out (R217). -/
theorem flushLines_wait (waits : s.mf = .flushRange .wait) (idle : s.busActive = false) :
    flushLines start stop s = .next (s.standAt (.flushRange .send)) := by
  simp [flushLines, range, waits, idle, State.standAt]

/-- The third step: the segment of the line records (R217). -/
theorem flushLines_send (sends : s.mf = .flushRange .send) (idle : s.busActive = false) : flushLines start stop s =
    .next (s.finish.withSegment .fb (14 * start) (14 * (stop - start)) .auto) := by
  have nonempty : 14 * (stop - start) ≠ 0 := by omega
  rw [← State.finish_withSegment]
  simp only [flushLines, if_pos range, sends]
  rw [transferAsync_idle idle .fb _ nonempty, andThen_next, fbAddr, Nat.add_zero]

end

/-- The main flow's step in FLUSH_RANGE, with no interrupt pending (R266). -/
theorem perform_flushRange {s : State} {a b : Byte} (holds : decode s.cw = .ok (.flushRange a b))
    (free : s.mainFlowFree = true) (guard : mainFlowGuard s = true) :
    perform .mainFlow s = flushLines a.toNat b.toNat s.takeCommand := by
  simp [perform, enabled, mainFlowEnabled, free, guard, mainFlowStep, holds, exec, execFlushRange]

/-- The state between the two segments of a flush that began in `s`: the command is on the wire, `CS` is still asserted
(R93, R214), and the main flow waits on an idle bus. -/
structure BetweenSegments (s t : State) : Prop where
  wire : t.wire = s.wire ++ [.csAssert, .byte s.cfg.cmdWriteMultipleLines]
  held : t.cs = true
  idle : t.busActive = false
  waits : t.mf = .flushRange .wait
  free : t.mainFlowFree = true
  cw : t.cw = s.cw
  fb : t.fb = s.fb

section
variable {s t : State} {a b : Byte} (holds : decode s.cw = .ok (.flushRange a b))
  (range : a.toNat < b.toNat ∧ b.toNat ≤ 96)
include holds range

/-- The main flow's first step and one step of the bus engine: the command segment (R217). -/
theorem runMoves_commandSegment (atRest : s.mf = .idle) (idle : s.busActive = false) (released : s.cs = false)
    (free : s.mainFlowFree = true) (written : s.cwWritten = true) (canonical : Memory.wf .scratch s.scratch = true) :
    ∃ t, runMoves [.mainFlow, .busByte] s = .next t ∧ BetweenSegments s t := by
  have guard : mainFlowGuard s = true := by simp [mainFlowGuard, atRest, written]
  have first := (perform_flushRange holds free guard).trans (flushLines_idle range atRest idle)
  have command : ((s.takeCommand.stage [s.cfg.cmdWriteMultipleLines]).standAt (.flushRange .wait)).loadBytes
      .scratch 0 1 = [s.cfg.cmdWriteMultipleLines] :=
    State.loadBytes_stage (s := s.takeCommand) (bytes := [_]) canonical (by simp)
  refine ⟨_, (runMoves_cons first _).trans (runMoves_wholeSegment (n := 1) _ .manual ?_), ?_⟩
  · decide
  constructor
  case wire =>
    rw [wire_wholeSegment _ _ _ Nat.one_pos, BusSource.space, State.takeCommand_cfg, command]
    simp [State.standAt, released]
  case idle => exact busActive_wholeSegment _ _ _ Nat.one_pos _
  case free => simpa [State.mainFlowFree, State.afterBytes, State.standAt] using free
  all_goals simp [State.afterBytes, State.standAt]

/-- From between the segments: the main flow's last two steps and the bus engine's steps send the records, then release
`CS` (R93, R217). -/
theorem runMoves_recordSegment (between : BetweenSegments s t) :
    ∃ u, runMoves (.mainFlow :: .mainFlow :: List.replicate (14 * (b.toNat - a.toNat)) .busByte) t = .next u ∧
      u.wire = t.wire ++ (s.loadBytes .fb (14 * a.toNat) (14 * (b.toNat - a.toNat))).map .byte ++ [.csRelease] ∧
      u.busActive = false ∧ u.mf = .idle ∧ u.resStatus = 0 := by
  obtain ⟨-, held, idle, waits, free, cw, fb⟩ := between
  have nonempty : 0 < 14 * (b.toNat - a.toNat) := by omega
  have inside : 14 * a.toNat + 14 * (b.toNat - a.toNat) ≤ 1344 := by omega
  have second : perform .mainFlow t = .next (t.takeCommand.standAt (.flushRange .send)) :=
    (perform_flushRange (cw ▸ holds) free (by simp [mainFlowGuard, waits, idle])).trans
      (flushLines_wait range waits idle)
  have third := (perform_flushRange (s := t.takeCommand.standAt (.flushRange .send)) (cw ▸ holds) free rfl).trans
    (flushLines_send range rfl idle)
  have records := State.loadBytes_of_mem (sp := .fb)
    (t := (t.takeCommand.standAt (.flushRange .send)).takeCommand.finish) fb
  have sent := ((runMoves_cons second _).trans (runMoves_cons third _)).trans (runMoves_wholeSegment _ .auto inside)
  refine ⟨_, sent, ?_, busActive_wholeSegment _ _ _ nonempty _, ?_, ?_⟩
  · rw [wire_wholeSegment _ _ _ nonempty, BusSource.space, records]
    simp [State.standAt, held]
  all_goals simp [State.afterBytes]

end

/-- At rest with an idle bus the invariant has `CS` released and nothing of the sampler pending (R47). -/
theorem atRest_of_inv {s : State} (h : inv s = true) (atRest : s.mf = .idle) (idle : s.busActive = false) :
    s.cs = false ∧ s.irqAdc = false := by
  have bus : busInv s = true := by simp_all [inv]
  have sampler : samplerInv s = true := by simp_all [inv]
  simp_all [busInv, samplerInv, samplerQuiet]

/-- Settles O46: the command segment, then the record segment under the same chip-select. -/
theorem multiLineTransaction : Obligations.MultiLineTransaction := by
  intro s a b atRest h idle noCompare written holds ordered inRange
  obtain ⟨released, noSample⟩ := atRest_of_inv h atRest idle
  have free : s.mainFlowFree = true := by simp [State.mainFlowFree, noSample, noCompare]
  obtain ⟨t, command, between⟩ := runMoves_commandSegment holds ⟨ordered, inRange⟩ atRest idle released free written
    (scratch_canonical_of_inv h)
  obtain ⟨u, records, wire, ends⟩ := runMoves_recordSegment holds ⟨ordered, inRange⟩ between
  refine ⟨u, (runMoves_append [.mainFlow, .busByte] _ s).trans ?_, ?_, ends⟩
  · rw [command]
    exact records
  · rw [wire, between.wire]

end Sys2Proof.Machine
end

section
/-! SUPPORT. The sampler's exit, its completion handler and its timeout (R133 to R138), and the statements about them. -/

namespace Sys2Proof.Machine

/-- The invariant has the sampler's state fit the position of SAMPLE (R47). -/
theorem samplerInv_of_inv {s : State} (h : inv s = true) : samplerInv s = true := by
  simp_all [inv]

/-- Outside SAMPLE nothing of the sampler is live (R47(e)). -/
theorem samplerQuiet_of_inv {s : State} (h : inv s = true) (outside : s.mf.op ≠ some "SAMPLE") :
    samplerQuiet s = true := by
  have sampler := samplerInv_of_inv h
  unfold samplerInv at sampler
  cases mf : s.mf with
  | sample position => simp [mf, MainFlow.op] at outside
  | idle | flushRange | waitIdle => simpa only [mf] using sampler

@[simp] theorem State.leaveSample_mf (s : State) : s.leaveSample.mf = .idle := by
  unfold State.leaveSample
  split <;> rfl

/-- Both exits power the converter down (R138). -/
@[simp] theorem State.leaveSample_adcEnable (s : State) : s.leaveSample.adcEnable = false := by
  unfold State.leaveSample
  split <;> rfl

theorem exec_sample_leave {s : State} (leaves : s.mf = .sample .leave) : exec .sample s = .next s.leaveSample := by
  simp [exec, execSample, leaves]

/-- Settles O22: every exit is `leaveSample`, and outside SAMPLE the invariant has the sampler quiet. -/
theorem powerDownOnEveryExit : Obligations.PowerDownOnEveryExit := by
  constructor
  case left =>
    intro s leaves
    exact ⟨s.leaveSample, exec_sample_leave leaves, s.leaveSample_mf, s.leaveSample_adcEnable⟩
  case right =>
    intro s h outside
    have quiet := samplerQuiet_of_inv h outside
    simp_all [samplerQuiet]

/-- A pending completion interrupt is taken at once by its handler (R264, R266(a)). -/
theorem perform_hAdc {s : State} (pending : s.irqAdc = true) :
    perform .hAdc s = .next (takeInterrupt s .adcCompletion) := by
  simp [perform, enabled, irqPending, pending, agentStep]

/-- Settles O24: the pending interrupt is taken, and R135 is its body with `cancel_timeout` written out. -/
theorem completionHandler : Obligations.CompletionHandler := by
  intro s pending
  exact perform_hAdc pending

/-- With nothing armed a cancellation changes only the ghost call counter (R136). -/
theorem State.cancelTimeout_of_unarmed {s : State} (unarmed : s.toArmed = false) :
    s.cancelTimeout = { s with cancelCalls := s.cancelCalls + 1 } := by
  simp [State.cancelTimeout, unarmed]

/-- SAMPLE comes to its arming step with nothing armed (R131, R136). -/
theorem unarmed_of_inv {s : State} (h : inv s = true) (arms : s.mf = .sample .arm) : s.toArmed = false := by
  have sampler := samplerInv_of_inv h
  simp_all [samplerInv]

/-- Settles O25: the two bodies as they are defined, and a second cancellation finds nothing armed. -/
theorem timeoutPrimitive : Obligations.TimeoutPrimitive := by
  refine ⟨fun _ _ => rfl, fun _ => rfl, fun s => ?again, fun _ => unarmed_of_inv⟩
  case again => exact State.cancelTimeout_of_unarmed s.cancelTimeout_toArmed

end Sys2Proof.Machine
end

section
/-! SUPPORT. What the stores of a text leave in FB (R171), and the statement about WRITE_TEXT. -/

namespace Sys2Proof.Machine

/-- The bits of a byte shifted to its place in a word. -/
theorem getLsbD_shifted_byte (x : Byte) (k : Nat) {i : Nat} (hi : i < 32) :
    (x.setWidth 32 <<< k).getLsbD i = (!decide (i < k) && x.getLsbD (i - k)) := by
  simp [hi]

/-- The bits of the `INV` field's mask (R97). -/
theorem getLsbD_flag (inv : Bool) (i : Nat) :
    (if inv then 1#32 <<< 24 else 0#32).getLsbD i = (decide (i = 24) && inv) := by
  cases inv with
  | false => simp
  | true =>
    rw [if_pos rfl, ← BitVec.twoPow_eq, BitVec.getLsbD_twoPow]
    simp [eq_comm]

/-- A command word is its fields, each shifted to its place (R97). -/
theorem cmdWord_eq_or (opsel a b : Byte) (inv : Bool) :
    cmdWord opsel a b inv = (opsel.setWidth 32 ||| a.setWidth 32 <<< 8 ||| b.setWidth 32 <<< 16 |||
      (if inv then 1#32 <<< 24 else 0#32)) := by
  apply BitVec.eq_of_getLsbD_eq
  intro i hi
  have opBits : (opsel.setWidth 32).getLsbD i = opsel.getLsbD i := by simp [hi]
  rw [cmdWord_getLsbD, BitVec.getLsbD_or, BitVec.getLsbD_or, BitVec.getLsbD_or, opBits,
    getLsbD_shifted_byte a 8 hi, getLsbD_shifted_byte b 16 hi, getLsbD_flag]
  split
  · next opField => simp [opField, show i < 16 by omega, show i ≠ 24 by omega]
  · next pastOp =>
    have noOp : opsel.getLsbD i = false := opsel.getLsbD_of_ge i (by omega)
    split
    · next aField => simp [pastOp, aField, noOp, show i ≠ 24 by omega]
    · next pastA =>
      have noA : a.getLsbD (i - 8) = false := a.getLsbD_of_ge _ (by omega)
      split
      · next bField => simp [pastA, noOp, noA, show i ≠ 24 by omega]
      · next pastB =>
        have noB : b.getLsbD (i - 16) = false := b.getLsbD_of_ge _ (by omega)
        simp [noOp, noA, noB]

/-- An address at which every store of the list puts the same byte reads that byte, even where it is stored to more
than once. -/
theorem Memory.read_writeAll_agree {sp : Space} {m : Memory} {cells : List Host.Cell} {a : Nat} {b : Byte}
    (canonical : Memory.wf sp m = true) (inside : ∀ c ∈ cells, c.1 < sp.size) (stored : (a, b) ∈ cells)
    (agree : ∀ b', (a, b') ∈ cells → b' = b) : Memory.read sp (Memory.writeAll sp m cells) a = b := by
  induction cells generalizing m with
  | nil => cases stored
  | cons c cells ih =>
    have first : Memory.wf sp (Memory.write sp m c.1 c.2) = true := Memory.wf_write c.2 canonical (inside c (by simp))
    have rest : ∀ d ∈ cells, d.1 < sp.size := fun d hd => inside d (List.mem_cons_of_mem _ hd)
    by_cases again : (a, b) ∈ cells
    · exact ih first rest again fun b' hb' => agree b' (List.mem_cons_of_mem _ hb')
    · obtain rfl : (a, b) = c := (List.mem_cons.mp stored).resolve_right again
      have untouched : ∀ d ∈ cells, d.1 ≠ a := by
        rintro ⟨x, b'⟩ hd rfl
        exact again (agree b' (List.mem_cons_of_mem _ hd) ▸ hd)
      refine (Memory.read_writeAll_other first rest untouched).trans ?_
      rw [Memory.read_write canonical, if_pos rfl]

@[simp] theorem State.payload_length (s : State) : s.payload.length = s.payLen.val := by
  simp [State.payload, State.loadBytes]

/-- The bounds of WRITE_TEXT, as inequalities. -/
theorem textFits_iff {n line col : Nat} :
    textFits n line col = true ↔ 1 ≤ n ∧ n ≤ 12 ∧ line + 7 ≤ 95 ∧ col + n ≤ 12 := by
  simp [textFits, and_assoc]

/-- Byte-columns below the stride do not wrap into another line (R60). -/
theorem fbAddr_inj {p p' k k' : Nat} (hk : k < 14) (hk' : k' < 14) (h : fbAddr p k = fbAddr p' k') :
    p = p' ∧ k = k' := by
  unfold fbAddr at h
  omega

/-- A text that does not fit, or has a byte without a glyph, is refused (R174). -/
theorem renderText_refused {text : List Byte} {line col : Nat} {inverted : Bool} {s : State}
    (h : textFits text.length line col = false ∨ s.cfg.hasGlyphs text = false) :
    renderText text line col inverted s = .refused .operandRange := by
  rcases h with outside | noGlyph
  · simp [renderText, outside]
  · rw [← textCells_isSome (inv := inverted) (line := line) (k := 1 + col), Option.isSome_eq_false_iff,
      Option.isNone_iff_eq_none] at noGlyph
    simp [renderText, noGlyph]

section
variable {cfg : Config} {inverted : Bool} {line col : Nat} {text : List Byte} {cells : List Host.Cell}
  (drawn : textCells cfg inverted line (1 + col) text = some cells)
include drawn

/-- Every store of a text goes to one of its characters' rows. -/
theorem textCells_place {a : Nat} {b : Byte} (h : (a, b) ∈ cells) :
    ∃ i r, i < text.length ∧ r < 8 ∧ a = fbAddr (line + r) (1 + col + i) := by
  obtain ⟨i, c, g, r, char, -, row, place⟩ := (textCells_mem drawn).mp h
  have rowBound := (List.getElem?_eq_some_iff.mp row).1
  rw [Vector.length_toList] at rowBound
  exact ⟨i, r, (List.getElem?_eq_some_iff.mp char).1, rowBound, place⟩

variable (fits : textFits text.length line col = true)
include fits

/-- The stores of a text that fits lie inside FB (R171). -/
theorem textCells_inside : ∀ c ∈ cells, c.1 < Space.fb.size := by
  rintro ⟨a, b⟩ h
  obtain ⟨i, r, char, row, rfl⟩ := textCells_place drawn h
  rw [textFits_iff] at fits
  show 14 * (line + r) + (1 + col + i) < 1344
  omega

/-- Two stores of a text that fits at one address are of one character and row, so of one byte. -/
theorem textCells_agree {a : Nat} {b b' : Byte} (h : (a, b) ∈ cells) (h' : (a, b') ∈ cells) : b' = b := by
  obtain ⟨i, c, g, r, char, glyph, row, rfl⟩ := (textCells_mem drawn).mp h
  obtain ⟨i', c', g', r', char', glyph', row', place⟩ := (textCells_mem drawn).mp h'
  have bound := (List.getElem?_eq_some_iff.mp char).1
  have bound' := (List.getElem?_eq_some_iff.mp char').1
  rw [textFits_iff] at fits
  obtain ⟨sameLine, sameColumn⟩ := fbAddr_inj (by omega) (by omega) place
  obtain rfl : i = i' := by omega
  obtain rfl : r = r' := by omega
  obtain rfl : c = c' := Option.some.inj (char.symm.trans char')
  obtain rfl : g = g' := Option.some.inj (glyph.symm.trans glyph')
  exact Option.some.inj (row'.symm.trans row)

variable {s : State} (canonical : Memory.wf .fb s.fb = true)
include canonical

/-- After the stores of a text that fits, each character's rows are at its place (R171). -/
theorem fbByte_storeFb_text {i r : Nat} {c : Byte} {g : Glyph} (char : text[i]? = some c)
    (glyph : cfg.glyphOf c = some g) (hr : r < 8) :
    (s.storeFb cells).fbByte (line + r) (1 + col + i) = (g.rows inverted)[r] := by
  have row : (g.rows inverted).toList[r]? = some (g.rows inverted)[r] := by simp [hr]
  have stored := (textCells_mem drawn).mpr ⟨i, c, g, r, char, glyph, row, rfl⟩
  exact Memory.read_writeAll_agree canonical (textCells_inside drawn fits) stored
    fun _ => textCells_agree drawn fits stored

/-- The stores of a text that fits leave every other byte of FB as it was (R171). -/
theorem load_storeFb_text_other {a : Nat}
    (elsewhere : ∀ i r, i < text.length → r < 8 → a ≠ fbAddr (line + r) (1 + col + i)) :
    (s.storeFb cells).load .fb a = s.load .fb a := by
  refine Memory.read_writeAll_other canonical (textCells_inside drawn fits) ?_
  rintro ⟨x, b⟩ h rfl
  obtain ⟨i, r, char, row, place⟩ := textCells_place drawn h
  exact elsewhere i r char row place

end

/-- WRITE_TEXT from idle is its body and the end of the operation (R171). -/
theorem exec_writeText_idle {s : State} (atRest : s.mf = .idle) (line col : Byte) (inverted : Bool) :
    exec (.writeText line col inverted) s =
      andThen (renderText s.payload line.toNat col.toNat inverted s) fun t => .next t.finish :=
  whenIdle_idle atRest _

/-- Settles O30: the word is the shifted fields, and the stores of the payload's text are read back. -/
theorem writeTextStoresGlyphs : Obligations.WriteTextStoresGlyphs := by
  intro s line col inverted atRest
  refine ⟨?word, ?drawn, ?refused⟩
  case word => exact congrArg some (cmdWord_eq_or 0x10 line col inverted)
  case drawn =>
    intro canonical fits glyphs
    rw [← s.payload_length] at fits ⊢
    obtain ⟨cells, drawn, runs⟩ := renderText_runs (inv := inverted) fits glyphs
    refine ⟨(s.storeFb cells).finish, ?_, ?_, ?_, ?_⟩
    · rw [exec_writeText_idle atRest, runs, andThen_next]
    · simp only [State.finish, State.storeFb, atRest]
    · exact fun i c g r char glyph hr => fbByte_storeFb_text drawn fits canonical char glyph hr
    · exact fun a => load_storeFb_text_other drawn fits canonical
  case refused =>
    intro h
    rw [← s.payload_length] at h
    rw [exec_writeText_idle atRest, renderText_refused h, andThen_refused]

end Sys2Proof.Machine
end

section
/-! SUPPORT. What an overlay writer stores and how it ends (R190 to R197), and the statements about all of them. -/

namespace Sys2Proof.Machine

/-- `u` is `s` with stores into FB, each into one of the regions (R196). -/
def DrawsIn (regions : List (Place × Nat)) (s u : State) : Prop :=
  ∃ cells, u = s.storeFb cells ∧
    ∀ c ∈ cells, c.1 < Space.fb.size ∧ ∃ region ∈ regions, inRegion region c.1 = true

/-- The operation draws in the regions, ends, and leaves the battery cache at `prev` (R190, R192). -/
def EndsDrawing (regions : List (Place × Nat)) (prev : Option Nat) (s t : State) : Prop :=
  ∃ u, DrawsIn regions s u ∧ t = { u.finish with battPrev := prev }

/-- The answer is a next state or the refusal of an operand range (R197). -/
def CompletesOrRange (r : Result) : Prop :=
  (∃ t, r = .next t) ∨ r = .refused .operandRange

theorem isOverlay_iff {i : Instr} :
    isOverlay i = true ↔ i = .ovClock ∨ (∃ pct, i = .ovBattery pct) ∨ (∃ on, i = .ovConnection on) ∨
      (∃ on, i = .ovSampling on) ∨ ∃ fix, i = .ovFix fix := by
  cases i <;> simp [isOverlay]

/-! ### The regions -/

/-- Byte-columns up to the stride stand in the line they name (R60). -/
theorem inRegion_fbAddr {p : Place} {width i r : Nat} (hi : i < width) (hr : r < 8) (fits : p.col + width ≤ 12) :
    inRegion (p, width) (fbAddr (p.line + r) (1 + p.col + i)) = true := by
  have line : (14 * (p.line + r) + (1 + p.col + i)) / 14 = p.line + r := by omega
  have column : (14 * (p.line + r) + (1 + p.col + i)) % 14 = 1 + p.col + i := by omega
  simp only [inRegion, fbAddr, line, column, Bool.and_eq_true, decide_eq_true_eq]
  omega

theorem DrawsIn.refl (regions : List (Place × Nat)) (s : State) : DrawsIn regions s s :=
  ⟨[], rfl, by simp⟩

theorem DrawsIn.trans {regions : List (Place × Nat)} {s u v : State} (first : DrawsIn regions s u)
    (second : DrawsIn regions u v) : DrawsIn regions s v := by
  obtain ⟨cells, rfl, inside⟩ := first
  obtain ⟨cells', rfl, inside'⟩ := second
  refine ⟨cells ++ cells', ?_, fun c hc => (List.mem_append.mp hc).elim (inside c) (inside' c)⟩
  simp [State.storeFb, Memory.writeAll]

/-- Drawing writes no parameter (R46). -/
theorem DrawsIn.cfg_eq {regions : List (Place × Nat)} {s u : State} (h : DrawsIn regions s u) : u.cfg = s.cfg := by
  obtain ⟨cells, rfl, -⟩ := h
  rfl

/-- A text drawn at a place stays in the region of its length there (R171, R190). -/
theorem renderAt_drawsIn {regions : List (Place × Nat)} {text : List Byte} {p : Place} {inverted : Bool} {s u : State}
    (h : renderAt text p inverted s = .next u) (owned : (p, text.length) ∈ regions) : DrawsIn regions s u := by
  obtain ⟨fits, cells, drawn, rfl⟩ := renderText_eq_next.mp h
  refine ⟨cells, rfl, fun c hc => ⟨textCells_inside drawn fits c hc, _, owned, ?_⟩⟩
  obtain ⟨i, r, char, row, place⟩ := textCells_place drawn hc
  obtain ⟨-, -, -, columns⟩ := textFits_iff.mp fits
  rw [place]
  exact inRegion_fbAddr char row columns

/-- Drawing leaves the cache as it was. -/
theorem DrawsIn.finish {regions : List (Place × Nat)} {s u : State} (h : DrawsIn regions s u) :
    EndsDrawing regions s.battPrev s u.finish := by
  obtain ⟨cells, rfl, inside⟩ := h
  exact ⟨s.storeFb cells, ⟨cells, rfl, inside⟩, rfl⟩

/-- From canonical FB at rest, an operation that ends drawing changed FB inside its regions, its outcome and the cache
only (R196). -/
theorem EndsDrawing.frame {regions : List (Place × Nat)} {prev : Option Nat} {s t : State}
    (h : EndsDrawing regions prev s t) (atRest : s.mf = .idle) (canonical : Memory.wf .fb s.fb = true) :
    t = { s with fb := t.fb, resStatus := 0, battPrev := prev } ∧
      ∀ a, (∀ region ∈ regions, inRegion region a = false) → t.load .fb a = s.load .fb a := by
  obtain ⟨u, ⟨cells, rfl, inside⟩, rfl⟩ := h
  refine ⟨by simp only [State.finish, State.storeFb, atRest], fun a outside => ?_⟩
  refine Memory.read_writeAll_other canonical (fun c hc => (inside c hc).1) ?_
  rintro c hc rfl
  obtain ⟨-, region, owned, within⟩ := inside c hc
  exact Bool.false_ne_true ((outside region owned).symm.trans within)

/-! ### The lengths of the texts -/

theorem clockText_length (ts : Nat) : (clockText ts).length = 8 := rfl

theorem percentDigits_length_le (pct : Nat) : (percentDigits pct).length ≤ 3 := by
  unfold percentDigits
  split
  · simp
  · split <;> simp

/-- The padding makes every battery text as wide as its region (R192). -/
theorem batteryText_length (pct : Nat) : (batteryText pct).length = 4 := by
  have short := percentDigits_length_le pct
  simp only [batteryText, List.length_append, List.length_replicate, List.length_cons, List.length_nil]
  omega

/-- A coordinate that lies in the payload has the lengths of its four parts (R104, R195). -/
theorem coordinateAt_lengths {payload : List Byte} {o : Nat} (inside : o + 10 ≤ payload.length) :
    (coordinateAt payload o).text.length = 12 ∧ (coordinateAt payload o).hemi.length = 1 := by
  simp only [Coordinate.text, coordinateAt, List.length_append, List.length_take, List.length_drop, List.length_cons,
    List.length_nil]
  omega

/-! ### What each overlay writer draws -/

/-- A text drawn as the whole operation. -/
theorem renderAt_finish_endsDrawing {regions : List (Place × Nat)} {text : List Byte} {p : Place} {inverted : Bool}
    {s t : State} (h : andThen (renderAt text p inverted s) (fun u => .next u.finish) = .next t)
    (owned : (p, text.length) ∈ regions) : EndsDrawing regions s.battPrev s t := by
  obtain ⟨u, drawn, done⟩ := andThen_eq_next.mp h
  cases done
  exact (renderAt_drawsIn drawn owned).finish

theorem execOvClock_endsDrawing {s t : State} (h : execOvClock s = .next t) :
    EndsDrawing [(s.cfg.clock, 8)] s.battPrev s t := by
  have body := (whenIdle_eq_next.mp h).2
  split at body
  · exact renderAt_finish_endsDrawing body (by simp [clockText_length])
  · cases body

/-- With the percentage in the cache nothing is drawn, and the cache stays; otherwise both are new (R192). -/
theorem execOvBattery_endsDrawing {pct : Byte} {s t : State} (h : execOvBattery pct s = .next t) :
    EndsDrawing [(s.cfg.battery, 4)] (some pct.toNat) s t := by
  have body := (whenIdle_eq_next.mp h).2
  split at body
  · split at body
    · next cached =>
      cases body
      exact cached ▸ (DrawsIn.refl _ s).finish
    · obtain ⟨u, drawn, done⟩ := andThen_eq_next.mp body
      cases done
      exact ⟨u, renderAt_drawsIn drawn (by simp [batteryText_length]), rfl⟩
  · cases body

theorem drawIndicator_endsDrawing {on : Byte} {p : Place} {inverted : Bool} {onText offText : List Byte} {s t : State}
    (h : drawIndicator on p inverted onText offText s = .next t) :
    EndsDrawing [(p, if on = 1 then onText.length else offText.length)] s.battPrev s t := by
  unfold drawIndicator at h
  split at h
  · exact renderAt_finish_endsDrawing h (by simp [apply_ite List.length])
  · cases h

/-- Four texts of the widths of OV_FIX's four regions stay in them (R195). -/
theorem drawFix_endsDrawing {latText latInd lonText lonInd : List Byte} {fix : Byte} {s t : State}
    (h : drawFix latText latInd lonText lonInd s = .next t) (latWidth : latText.length = 12 ∧ latInd.length = 1)
    (lonWidth : lonText.length = 12 ∧ lonInd.length = 1) :
    EndsDrawing (overlayRegions s.cfg (.ovFix fix)) s.battPrev s t := by
  simp only [drawFix, andThen_eq_next] at h
  obtain ⟨u, lat, v, latI, w, lon, x, lonI, done⟩ := h
  cases done
  have first : DrawsIn (overlayRegions s.cfg (.ovFix fix)) s u :=
    renderAt_drawsIn lat (by simp [overlayRegions, latWidth])
  have second := first.trans (renderAt_drawsIn latI (by simp [overlayRegions, latWidth, first.cfg_eq]))
  have third := second.trans (renderAt_drawsIn lon (by simp [overlayRegions, lonWidth, second.cfg_eq]))
  exact (third.trans (renderAt_drawsIn lonI (by simp [overlayRegions, lonWidth, third.cfg_eq]))).finish

theorem execOvFix_endsDrawing {fix : Byte} {s t : State} (h : execOvFix fix s = .next t) :
    EndsDrawing (overlayRegions s.cfg (.ovFix fix)) s.battPrev s t := by
  have body := (whenIdle_eq_next.mp h).2
  split at body
  · exact drawFix_endsDrawing body ⟨rfl, rfl⟩ ⟨rfl, rfl⟩
  · split at body
    · next record =>
      have twenty : s.payload.length = 20 := s.payload_length.trans record.2
      exact drawFix_endsDrawing body (coordinateAt_lengths (by omega)) (coordinateAt_lengths (by omega))
    · cases body

/-- An overlay writer answers a next state from idle only (R100(b)). -/
theorem mf_idle_of_overlay {i : Instr} {s t : State} (overlay : isOverlay i = true) (h : exec i s = .next t) :
    s.mf = .idle := by
  rcases isOverlay_iff.mp overlay with rfl | ⟨_, rfl⟩ | ⟨_, rfl⟩ | ⟨_, rfl⟩ | ⟨_, rfl⟩ <;>
    exact (whenIdle_eq_next.mp h).1

/-- Settles O40: each writer ends drawing in its own regions. -/
theorem overlaysKeepToTheirRegions : Obligations.OverlaysKeepToTheirRegions := by
  intro i s t overlay canonical h
  have atRest := mf_idle_of_overlay overlay h
  rcases isOverlay_iff.mp overlay with rfl | ⟨pct, rfl⟩ | ⟨on, rfl⟩ | ⟨on, rfl⟩ | ⟨fix, rfl⟩
  · exact (execOvClock_endsDrawing h).frame atRest canonical
  · exact (execOvBattery_endsDrawing h).frame atRest canonical
  · exact (drawIndicator_endsDrawing (whenIdle_eq_next.mp h).2).frame atRest canonical
  · exact (drawIndicator_endsDrawing (whenIdle_eq_next.mp h).2).frame atRest canonical
  · exact (execOvFix_endsDrawing h).frame atRest canonical

/-! ### The only refusal -/

theorem CompletesOrRange.next (t : State) : CompletesOrRange (.next t) := .inl ⟨t, rfl⟩

theorem CompletesOrRange.refused : CompletesOrRange (.refused .operandRange) := .inr rfl

theorem CompletesOrRange.andThen {r : Result} {k : State → Result} (first : CompletesOrRange r)
    (rest : ∀ t, CompletesOrRange (k t)) : CompletesOrRange (Machine.andThen r k) := by
  rcases first with ⟨t, rfl⟩ | rfl
  · exact rest t
  · exact .refused

/-- A text is drawn when it fits and has glyphs, and is refused otherwise (R174). -/
theorem renderAt_completesOrRange (text : List Byte) (p : Place) (inverted : Bool) (s : State) :
    CompletesOrRange (renderAt text p inverted s) := by
  by_cases drawable : textFits text.length p.line p.col = true ∧ s.cfg.hasGlyphs text = true
  · obtain ⟨cells, -, runs⟩ := renderText_runs (inv := inverted) drawable.1 drawable.2
    exact .inl ⟨_, runs⟩
  · rw [Classical.not_and_iff_not_or_not, Bool.not_eq_true, Bool.not_eq_true] at drawable
    exact .inr (renderText_refused drawable)

theorem execOvClock_completesOrRange {s : State} (atRest : s.mf = .idle) : CompletesOrRange (execOvClock s) := by
  rw [execOvClock, whenIdle_idle atRest]
  split
  · exact (renderAt_completesOrRange _ _ _ _).andThen fun _ => .next _
  · exact .refused

theorem execOvBattery_completesOrRange {pct : Byte} {s : State} (atRest : s.mf = .idle) :
    CompletesOrRange (execOvBattery pct s) := by
  rw [execOvBattery, whenIdle_idle atRest]
  split
  · split
    · exact .next _
    · exact (renderAt_completesOrRange _ _ _ _).andThen fun _ => .next _
  · exact .refused

theorem drawIndicator_completesOrRange (on : Byte) (p : Place) (inverted : Bool) (onText offText : List Byte)
    (s : State) : CompletesOrRange (drawIndicator on p inverted onText offText s) := by
  unfold drawIndicator
  split
  · exact (renderAt_completesOrRange _ _ _ _).andThen fun _ => .next _
  · exact .refused

theorem drawFix_completesOrRange (latText latInd lonText lonInd : List Byte) (s : State) :
    CompletesOrRange (drawFix latText latInd lonText lonInd s) :=
  (renderAt_completesOrRange _ _ _ _).andThen fun _ =>
  (renderAt_completesOrRange _ _ _ _).andThen fun _ =>
  (renderAt_completesOrRange _ _ _ _).andThen fun _ =>
  (renderAt_completesOrRange _ _ _ _).andThen fun _ => .next _

theorem execOvFix_completesOrRange {fix : Byte} {s : State} (atRest : s.mf = .idle) :
    CompletesOrRange (execOvFix fix s) := by
  rw [execOvFix, whenIdle_idle atRest]
  split
  · exact drawFix_completesOrRange _ _ _ _ s
  · split
    · exact drawFix_completesOrRange _ _ _ _ s
    · exact .refused

/-- Settles O41: each text of each writer is drawn or refused, and the other guards refuse operands. -/
theorem overlaysNeverFail : Obligations.OverlaysNeverFail := by
  intro i s overlay atRest
  rcases isOverlay_iff.mp overlay with rfl | ⟨pct, rfl⟩ | ⟨on, rfl⟩ | ⟨on, rfl⟩ | ⟨fix, rfl⟩
  · exact execOvClock_completesOrRange atRest
  · exact execOvBattery_completesOrRange atRest
  · rw [exec, execOvConnection, whenIdle_idle atRest]
    exact drawIndicator_completesOrRange on _ _ _ _ s
  · rw [exec, execOvSampling, whenIdle_idle atRest]
    exact drawIndicator_completesOrRange on _ _ _ _ s
  · exact execOvFix_completesOrRange atRest

end Sys2Proof.Machine
end

section
/-! SUPPORT. FLUSH_ALL as the flush of all 96 lines (R218). -/

namespace Sys2Proof.Machine

/-- Settles O47: FLUSH_ALL is FLUSH_RANGE 0, 96 by definition, so its transaction is the multi-line transaction (R93)
of the command byte and the 1344 bytes of FB. -/
theorem flushAllIsFullRange : Obligations.FlushAllIsFullRange := by
  have word : decode 0x00600022 = .ok (.flushRange 0 96) := by decide
  refine ⟨by decide, word, fun _ => rfl, fun s atRest h idle noCompare written cw => ?_⟩
  obtain ⟨u, sent, wire, -⟩ :=
    multiLineTransaction s 0 96 atRest h idle noCompare written (cw ▸ word) (by decide) (by decide)
  refine ⟨u, s.cfg.cmdWriteMultipleLines :: s.loadBytes .fb 0 1344, sent, by simp [State.loadBytes], ?_⟩
  rw [wire]
  simp

end Sys2Proof.Machine
end

section
/-! SUPPORT. The command byte about to be sent and the pin (R94, R221): what each transfer operation does, said once;
what every step leaves of the command byte; and that no transfer depends on `VCOM_PIN`. -/

namespace Sys2Proof.Machine

/-! ### What a transfer operation can do -/

/-- A segment starts on an idle bus only (R210). -/
theorem idle_of_andThen_transferAsync {src : BusSource} {addr n : Nat} {mode : CsMode} {k : State → Result}
    {s t : State} (h : andThen (transferAsync src addr n mode s) k = .next t) : s.busActive = false := by
  obtain ⟨u, started, -⟩ := andThen_eq_next.mp h
  exact (transferAsync_eq_next.mp started).2.1

theorem exec_clearScreen_eq_next {s t : State} : exec .clearScreen s = .next t ↔
    s.mf = .idle ∧ s.busActive = false ∧ t = (s.stage (clearBytes s)).finish.withSegment .scratch 0 2 .auto := by
  constructor
  · intro h
    obtain ⟨atRest, body⟩ := whenIdle_eq_next.mp h
    have idle : s.busActive = false := by simpa using idle_of_andThen_transferAsync body
    exact ⟨atRest, idle, Host.Outcome.next.inj (h.symm.trans (exec_clearScreen_idle atRest idle))⟩
  · rintro ⟨atRest, idle, rfl⟩
    exact exec_clearScreen_idle atRest idle

theorem exec_flushLine_eq_next {index : Byte} {s t : State} : exec (.flushLine index) s = .next t ↔
    s.mf = .idle ∧ s.busActive = false ∧ index.toNat ≤ 95 ∧
      t = (s.stage (singleLineBytes s index.toNat)).finish.withSegment .scratch 0 16 .auto := by
  constructor
  · intro h
    obtain ⟨atRest, body⟩ := whenIdle_eq_next.mp h
    split at body
    · next line =>
      have idle : s.busActive = false := by simpa using idle_of_andThen_transferAsync body
      exact ⟨atRest, idle, line, Host.Outcome.next.inj (h.symm.trans (exec_flushLine_idle atRest idle line))⟩
    · cases body
  · rintro ⟨atRest, idle, line, rfl⟩
    exact exec_flushLine_idle atRest idle line

/-- A flush of lines takes the step of the position it stands at: the command segment, the wait, the records (R217). -/
theorem flushLines_eq_next {start stop : Nat} {s t : State} : flushLines start stop s = .next t ↔
    (start < stop ∧ stop ≤ 96) ∧
    (s.mf = .idle ∧ s.busActive = false ∧ t = ((s.stage [s.cfg.cmdWriteMultipleLines]).standAt
        (.flushRange .wait)).withSegment .scratch 0 1 .manual ∨
      s.mf = .flushRange .wait ∧ t = (if s.busActive then s else s.standAt (.flushRange .send)) ∨
      s.mf = .flushRange .send ∧ s.busActive = false ∧
        t = s.finish.withSegment .fb (14 * start) (14 * (stop - start)) .auto) := by
  constructor
  · intro h
    have run := h
    unfold flushLines at h
    split at h
    · next range =>
      refine ⟨range, ?_⟩
      split at h
      · next atRest =>
        have idle : s.busActive = false := by simpa using idle_of_andThen_transferAsync h
        exact .inl ⟨atRest, idle, Host.Outcome.next.inj (run.symm.trans (flushLines_idle range atRest idle))⟩
      · next waits =>
        cases h
        exact .inr (.inl ⟨waits, rfl⟩)
      · next sends =>
        have idle : s.busActive = false := by simpa using idle_of_andThen_transferAsync h
        exact .inr (.inr ⟨sends, idle, Host.Outcome.next.inj (run.symm.trans (flushLines_send range sends idle))⟩)
      · cases h
      · cases h
    · cases h
  · rintro ⟨range, ⟨atRest, idle, rfl⟩ | ⟨waits, rfl⟩ | ⟨sends, idle, rfl⟩⟩
    · exact flushLines_idle range atRest idle
    · simp [flushLines, range, waits, State.standAt]
    · exact flushLines_send range sends idle

/-- WAIT_IDLE takes its position while a segment is active and ends otherwise (R219). -/
theorem exec_waitIdle_eq_next {s t : State} : exec .waitIdle s = .next t ↔
    (s.mf = .idle ∨ s.mf = .waitIdle) ∧ t = if s.busActive then s.standAt .waitIdle else s.finish := by
  cases mf : s.mf with
  | idle => simp [exec, execWaitIdle, mf, State.standAt, eq_comm (a := t)]
  | waitIdle =>
    have stays : s.standAt .waitIdle = s := by rw [State.standAt, ← mf]
    simp [exec, execWaitIdle, mf, stays, eq_comm (a := t)]
  | sample | flushRange => simp [exec, execWaitIdle, mf]

/-! ### The command byte about to be sent -/

/-- Nothing the command byte depends on differs: the configuration, SCRATCH, and the segment's source, position and
activity. -/
def SameSegment (s t : State) : Prop :=
  t.cfg = s.cfg ∧ t.scratch = s.scratch ∧ t.busActive = s.busActive ∧ t.busSrc = s.busSrc ∧ t.busPtr = s.busPtr

theorem SameSegment.vcomBitClear_eq {s t : State} (h : SameSegment s t) : vcomBitClear t = vcomBitClear s := by
  obtain ⟨cfg, scratch, active, src, ptr⟩ := h
  simp only [vcomBitClear, State.atCommandByte, State.load, State.mem, cfg, scratch, active, src, ptr]

theorem DrawsOnly.sameSegment {s t : State} (h : DrawsOnly s t) : SameSegment s t := by
  rw [h]
  exact ⟨rfl, rfl, rfl, rfl, rfl⟩

theorem State.consumeMove_sameSegment (s : State) : SameSegment s s.consumeMove := by
  simp [SameSegment]

/-- No step of SAMPLE concerns the bus (R144). -/
theorem execSample_sameSegment {s t : State} (h : execSample s = .next t) : SameSegment s t := by
  unfold execSample at h
  cases mf : s.mf with
  | idle =>
    simp only [mf] at h
    split at h
    · cases h
    · split at h <;> cases h
      simp [SameSegment]
  | sample position =>
    cases position with simp only [mf] at h
    | enable | arm | start =>
      cases h
      simp [SameSegment]
    | wait => split at h <;> cases h <;> simp [SameSegment]
    | leave =>
      cases h
      unfold State.leaveSample
      split <;> simp [SameSegment, State.leaveTimedOut, State.leaveWithSample]
  | flushRange | waitIdle =>
    simp only [mf] at h
    cases h

theorem execRefreshConfigure_sameSegment {s t : State} (h : execRefreshConfigure s = .next t) : SameSegment s t := by
  have body := (whenIdle_eq_next.mp h).2
  split at body <;> cases body
  simp [SameSegment]

/-- The agents other than the bus engine leave the segment alone. -/
theorem agentStep_sameSegment {m : Move} {s t : State} (other : m ≠ .busByte) (h : agentStep s m = .next t) :
    SameSegment s t := by
  cases m with
  | busByte => exact absurd rfl other
  | _ =>
    cases h
    simp [SameSegment, takeInterrupt, cmpMatch, adcComplete, timerTick, hostCommand]

/-- After a byte of the segment the bus engine does not stand at a command byte (R94, R211). -/
theorem busByte_vcomBitClear {s t : State} (h : busByte s = .next t) : vcomBitClear t = true := by
  obtain ⟨-, rfl⟩ := busByte_eq_next.mp h
  simp [vcomBitClear, State.atCommandByte]

theorem sendCommand_vcomBitClear {b : Byte} {s t : State} (h : sendCommand b s = .next t) : vcomBitClear t = true := by
  unfold sendCommand at h
  split at h
  · exact busByte_vcomBitClear h
  · cases h

theorem vcomBitClear_of_fb {s : State} (fromFb : s.busSrc = .fb) : vcomBitClear s = true := by
  simp [vcomBitClear, State.atCommandByte, fromFb]

/-- The first byte staged is the byte at the start of SCRATCH (R35). -/
theorem State.load_stage_zero {s : State} {b : Byte} {bytes : List Byte}
    (canonical : Memory.wf .scratch s.scratch = true) (fits : bytes.length < 16) :
    (s.stage (b :: bytes)).load .scratch 0 = b := by
  have staged := State.loadBytes_stage (bytes := b :: bytes) canonical fits
  rw [List.length_cons, Nat.add_comm, State.loadBytes_add, State.loadBytes_one] at staged
  exact (List.cons.inj staged).1

/-- Where the transaction staged in SCRATCH begins with a byte whose VCOM bit is 0, so does the segment. -/
theorem vcomBitClear_staged {s t : State} {b : Byte} {bytes : List Byte} (clear : b.getLsbD s.cfg.vcomBit = false)
    (canonical : Memory.wf .scratch s.scratch = true) (fits : bytes.length < 16) (cfg : t.cfg = s.cfg)
    (staged : t.scratch = (s.stage (b :: bytes)).scratch) : vcomBitClear t = true := by
  have first : t.load .scratch 0 = b := by
    rw [← State.load_stage_zero (b := b) canonical fits]
    simp only [State.load, State.mem, staged]
  rw [vcomBitClear, first, cfg, clear, Bool.not_false, Bool.or_true]

/-- The three command bytes of a valid board have a 0 at the VCOM bit (R94). -/
theorem Config.valid_vcomBit {cfg : Config} (valid : cfg.valid = true) :
    cfg.cmdClear.getLsbD cfg.vcomBit = false ∧ cfg.cmdWriteOneLine.getLsbD cfg.vcomBit = false ∧
      cfg.cmdWriteMultipleLines.getLsbD cfg.vcomBit = false := by
  simp_all [Config.valid]

section
variable {s t : State} (valid : s.cfg.valid = true) (canonical : Memory.wf .scratch s.scratch = true)
  (clear : vcomBitClear s = true)
include valid canonical clear

/-- A flush of lines stages its command byte, waits, or sends from FB. -/
theorem flushLines_vcomBitClear {start stop : Nat} (h : flushLines start stop s = .next t) : vcomBitClear t = true := by
  obtain ⟨-, -, multi⟩ := Config.valid_vcomBit valid
  obtain ⟨-, ⟨-, -, rfl⟩ | ⟨-, rfl⟩ | ⟨-, -, rfl⟩⟩ := flushLines_eq_next.mp h
  · exact vcomBitClear_staged (bytes := []) multi canonical (by decide) (by simp [State.standAt])
      (by simp [State.standAt])
  · split <;> exact clear
  · exact vcomBitClear_of_fb (by simp)

/-- Every operation keeps the VCOM bit of the command byte about to be sent 0: a transfer stages a command byte of the
board, the others leave the segment alone. -/
theorem exec_vcomBitClear {i : Instr} (h : exec i s = .next t) : vcomBitClear t = true := by
  obtain ⟨clearCommand, single, -⟩ := Config.valid_vcomBit valid
  have kept {u : State} (same : SameSegment s u) : vcomBitClear u = true := same.vcomBitClear_eq.trans clear
  cases i with
  | sample => exact kept (execSample_sameSegment h)
  | refreshConfigure => exact kept (execRefreshConfigure_sameSegment h)
  | writeText => exact kept (execWriteText_drawsOnly h).sameSegment
  | writeRegion => exact kept (execWriteRegion_drawsOnly h).sameSegment
  | ovClock => exact kept (execOvClock_drawsOnly h).sameSegment
  | ovBattery => exact kept (execOvBattery_drawsOnly h).sameSegment
  | ovConnection | ovSampling => exact kept (drawIndicator_drawsOnly (whenIdle_eq_next.mp h).2).sameSegment
  | ovFix => exact kept (execOvFix_drawsOnly h).sameSegment
  | clearScreen =>
    obtain ⟨-, -, rfl⟩ := exec_clearScreen_eq_next.mp h
    exact vcomBitClear_staged (bytes := [0x00]) clearCommand canonical (by decide) (by simp) (by simp [clearBytes])
  | flushLine index =>
    obtain ⟨-, -, -, rfl⟩ := exec_flushLine_eq_next.mp h
    exact vcomBitClear_staged (bytes := s.loadBytes .fb (fbAddr index.toNat 0) 13 ++ [0x00, 0x00]) single canonical
      (by simp [State.loadBytes]) (by simp) (by simp [singleLineBytes])
  | flushRange start stop => exact flushLines_vcomBitClear valid canonical clear h
  | flushAll => exact flushLines_vcomBitClear valid canonical clear (start := 0) (stop := 96) h
  | waitIdle =>
    obtain ⟨-, rfl⟩ := exec_waitIdle_eq_next.mp h
    split <;> exact clear
  | cmdClear | cmdWriteOneLine | cmdWriteMultipleLines => exact sendCommand_vcomBitClear h

/-- So does every move (R221). -/
theorem perform_vcomBitClear {m : Move} (h : perform m s = .next t) : vcomBitClear t = true := by
  rcases perform_cases h with ⟨-, -, main⟩ | ⟨-, -, agent⟩ | ⟨-, rfl⟩
  · unfold mainFlowStep at main
    split at main
    · exact exec_vcomBitClear (s := s.takeCommand) valid canonical clear main
    · cases main
  · by_cases engine : m = .busByte
    · subst engine
      exact busByte_vcomBitClear agent
    · exact (agentStep_sameSegment engine agent).vcomBitClear_eq.trans clear
  · exact clear

end

/-! ### Transfers and the pin -/

/-- The pin at the level `v`, everything else as before. -/
def State.withPin (s : State) (v : Bool) : State := { s with vcomPin := v }

section
variable (s : State) (v : Bool)

@[simp] theorem State.withPin_stage (bytes : List Byte) : (s.stage bytes).withPin v = (s.withPin v).stage bytes := rfl
@[simp] theorem State.withPin_finish : s.finish.withPin v = (s.withPin v).finish := rfl
@[simp] theorem State.withPin_standAt (mf : MainFlow) : (s.standAt mf).withPin v = (s.withPin v).standAt mf := rfl
@[simp] theorem clearBytes_withPin : clearBytes (s.withPin v) = clearBytes s := rfl
@[simp] theorem singleLineBytes_withPin (i : Nat) : singleLineBytes (s.withPin v) i = singleLineBytes s i := rfl

@[simp] theorem State.withPin_withSegment (src : BusSource) (addr n : Nat) (mode : CsMode) :
    (s.withSegment src addr n mode).withPin v = (s.withPin v).withSegment src addr n mode := by
  cases h : s.cs <;> simp [State.withSegment, State.assertCs, State.emit, State.withPin, h]

end

theorem flushLines_withPin {start stop : Nat} {s t : State} (v : Bool) (h : flushLines start stop s = .next t) :
    flushLines start stop (s.withPin v) = .next (t.withPin v) := by
  obtain ⟨range, step⟩ := flushLines_eq_next.mp h
  refine flushLines_eq_next.mpr ⟨range, ?_⟩
  rcases step with ⟨atRest, idle, rfl⟩ | ⟨waits, rfl⟩ | ⟨sends, idle, rfl⟩
  · exact .inl ⟨atRest, idle, State.withPin_withSegment ..⟩
  · exact .inr (.inl ⟨waits, apply_ite (State.withPin · v) ..⟩)
  · exact .inr (.inr ⟨sends, idle, State.withPin_withSegment ..⟩)

/-- A transfer operation does the same whatever the pin's level, up to that level (R221). -/
theorem exec_transfer_withPin {i : Instr} {s t : State} (v : Bool) (transfer : isTransfer i = true)
    (h : exec i s = .next t) : exec i (s.withPin v) = .next (t.withPin v) := by
  cases i with
  | clearScreen =>
    obtain ⟨atRest, idle, rfl⟩ := exec_clearScreen_eq_next.mp h
    exact exec_clearScreen_eq_next.mpr ⟨atRest, idle, by simp⟩
  | flushLine index =>
    obtain ⟨atRest, idle, line, rfl⟩ := exec_flushLine_eq_next.mp h
    exact exec_flushLine_eq_next.mpr ⟨atRest, idle, line, by simp⟩
  | flushRange => exact flushLines_withPin v h
  | flushAll => exact flushLines_withPin (start := 0) (stop := 96) v h
  | waitIdle =>
    obtain ⟨position, rfl⟩ := exec_waitIdle_eq_next.mp h
    exact exec_waitIdle_eq_next.mpr ⟨position, apply_ite (State.withPin · v) ..⟩
  | _ => cases transfer

/-- Settles O15: power-up has no segment; a step stages a command byte of the board, leaves the segment, or passes its
first byte; and a transfer run at the pin's own level shows that it leaves the level. -/
theorem vcomBitIsZero : Obligations.VcomBitIsZero := by
  refine ⟨fun cfg u => rfl, fun s t valid h clear stepped => ?_, fun i s t v transfer h => ⟨?_, ?_⟩⟩
  · refine perform_vcomBitClear (s := s.consumeMove) ?_ ?_ ?_ stepped
    · simpa using valid
    · simpa using scratch_canonical_of_inv h
    · exact s.consumeMove_sameSegment.vcomBitClear_eq.trans clear
  · have own : exec i s = .next (t.withPin s.vcomPin) := exec_transfer_withPin s.vcomPin transfer h
    rw [Host.Outcome.next.inj (h.symm.trans own), State.withPin]
  · exact exec_transfer_withPin v transfer h

end Sys2Proof.Machine
end

section
/-! SUPPORT. The compare event (R244), with the chain configured and before (R48), and the statement about it. -/

namespace Sys2Proof.Machine

theorem toggleLinked_iff (s : State) : toggleLinked s = true ↔ s.fabricChEn = true ∧ s.gpioMode = .toggle := by
  simp [toggleLinked]

/-- `CMP_MATCH` under either of its guards. -/
theorem perform_cmpMatch {s : State} (can : cmpMatchEnabled s = true) :
    perform .cmpMatch s = .next (cmpMatch s) := by
  simp [perform, enabled, can, agentStep]

theorem cmpMatchEnabled_of_coincide {s : State} (coincide : s.timerCnt = s.timerCc) : cmpMatchEnabled s = true := by
  simp [cmpMatchEnabled, coincide]

/-- `CMP_MATCH`'s whole effect, field by field, in the terms of R244. -/
theorem cmpMatch_eq (s : State) :
    cmpMatch s = { s with
      vcomPin := if s.fabricChEn = true ∧ s.gpioMode = .toggle then !s.vcomPin else s.vcomPin,
      toggles := if s.fabricChEn = true ∧ s.gpioMode = .toggle then s.toggles + 1 else s.toggles,
      irqCmp := if s.timerIntenCmp then true else s.irqCmp } := by
  have interrupt : (s.timerIntenCmp || s.irqCmp) = if s.timerIntenCmp then true else s.irqCmp := by
    cases s.timerIntenCmp <;> rfl
  simp only [cmpMatch, toggleLinked_iff, interrupt]

/-- With the channel off and the interrupt disabled the event reaches neither the pin nor the core. -/
theorem cmpMatch_of_off {s : State} (channel : s.fabricChEn = false) (interrupt : s.timerIntenCmp = false) :
    cmpMatch s = s := by
  have unlinked : toggleLinked s = false := by simp [toggleLinked, channel]
  have unraised : (s.timerIntenCmp || s.irqCmp) = s.irqCmp := by simp [interrupt]
  simp [cmpMatch, unlinked, unraised]

/-- Before REFRESH_CONFIGURE the channel is off and the compare interrupt disabled (R48). -/
theorem chain_off_of_inv {s : State} (h : inv s = true) (before : s.refConfigured = false) :
    s.fabricChEn = false ∧ s.timerIntenCmp = false := by
  have refresh : refreshInv s = true := by simp_all [inv]
  simp_all [refreshInv]

/-- Settles O54: at the compare value the event happens, with the effect R244 gives it; before the chain is configured
that effect is none. -/
theorem compareMatchToggles : Obligations.CompareMatchToggles := by
  intro s coincide
  have happens : perform .cmpMatch s = .next (cmpMatch s) := perform_cmpMatch (cmpMatchEnabled_of_coincide coincide)
  refine ⟨by rw [happens, cmpMatch_eq], fun h before => ?_⟩
  obtain ⟨channel, interrupt⟩ := chain_off_of_inv h before
  rw [happens, cmpMatch_of_off channel interrupt]

end Sys2Proof.Machine
end

section
/-! SUPPORT. The command word and the wire command byte: decoding after encoding and encoding after decoding (R94 to
R101), and the statements about them. -/

namespace Sys2Proof

/-- An operation with unused fields is decoded when they are 0, and only then (R97, R100(a)). -/
@[simp] theorem unlessUsed_eq_ok {unused : Bool} {i j : Instr} :
    unlessUsed unused i = .ok j ↔ unused = false ∧ i = j := by
  cases unused <;> simp [unlessUsed]

/-- Settles O1: each field of the word is read back as it was put in. -/
theorem decodeOfEncode : Obligations.DecodeOfEncode := by
  intro i w word
  cases i with
  | cmdClear | cmdWriteOneLine | cmdWriteMultipleLines => cases word
  | _ =>
    cases word
    simp [decode, Instr.canonical]

/-- A word whose `ZERO` field is 0 is the word of its selector and its other fields (R97). -/
theorem word_of_opsel {w : Word} {n : Nat} (zero : cwZero w = 0) (opsel : (cwOpsel w).toNat = n) :
    cmdWord (BitVec.ofNat 8 n) (cwA w) (cwB w) (cwInv w) = w := by
  rw [← opsel, BitVec.ofNat_toNat, BitVec.setWidth_eq, cmdWord_fields zero]

/-- Settles O2: a decoded word has `ZERO` 0 and the operation's selector, and its unused fields are 0, so it is the
word of the operation's fields. -/
theorem encodeOfDecode : Obligations.EncodeOfDecode := by
  intro w i decoded
  unfold decode at decoded
  split at decoded
  · cases decoded
  · next zero =>
    rw [Decidable.not_not] at zero
    split at decoded
    case h_14 => cases decoded
    case h_2 opsel =>
      cases decoded
      exact congrArg some (word_of_opsel zero opsel)
    all_goals
      next opsel =>
      obtain ⟨unused, rfl⟩ := unlessUsed_eq_ok.mp decoded
      have word := word_of_opsel zero opsel
      simp_all [encode]

/-- A word decodes to no second name of an operation (R101). -/
theorem canonical_of_decode {w : Word} {i : Instr} (decoded : decode w = .ok i) : i.canonical = i :=
  Except.ok.inj ((decodeOfEncode i w (encodeOfDecode w i decoded)).symm.trans decoded)

/-- Settles O3: each of the words is decoded by computation. -/
theorem testVectorWords : Obligations.TestVectorWords := by
  unfold Obligations.TestVectorWords
  decide

/-- The command a byte decodes to has that byte (R95). -/
theorem encodeWire_of_decodeWire {cfg : Config} {b : Byte} {i : Instr} (decoded : decodeWire cfg b = some i) :
    encodeWire cfg i = some b := by
  unfold decodeWire at decoded
  split at decoded
  · next first => cases decoded; exact congrArg some first.symm
  · split at decoded
    · next second => cases decoded; exact congrArg some second.symm
    · split at decoded
      · next third => cases decoded; exact congrArg some third.symm
      · cases decoded

/-- The byte of a wire command decodes (R95). -/
theorem exists_decodeWire {cfg : Config} {i : Instr} {b : Byte} (byte : encodeWire cfg i = some b) :
    ∃ j, decodeWire cfg b = some j := by
  unfold decodeWire
  cases i <;> cases byte <;> split_ifs <;> simp_all

/-- Settles O4: the byte decodes to a command of that byte, and where the constants differ no other command has it. -/
theorem wireCommandRoundTrip : Obligations.WireCommandRoundTrip := by
  intro cfg i b byte
  obtain ⟨j, decoded⟩ := exists_decodeWire byte
  refine ⟨⟨j, decoded, encodeWire_of_decodeWire decoded⟩, fun firstSecond firstThird secondThird => ?_⟩
  cases i with
  | cmdClear | cmdWriteOneLine | cmdWriteMultipleLines =>
    cases byte
    simp [decodeWire, firstSecond.symm, firstThird.symm, secondThird.symm]
  | _ => cases byte

end Sys2Proof
end

section
/-! SUPPORT. Everything SAMPLE's steps can do (R130 to R133), and what they leave unchanged (R144). -/

namespace Sys2Proof.Machine

/-- SAMPLE takes the step of the position it stands at, and from idle only on a timeout and a free sampler (R130 to
R133). -/
theorem execSample_eq_next {s t : State} : execSample s = .next t ↔
    s.mf = .idle ∧ s.argw ≠ 0 ∧ s.busy = false ∧ t = { s with adcConfig := .sampleSetup, mf := .sample .enable } ∨
    s.mf = .sample .enable ∧ t = { s with adcEnable := true, mf := .sample .arm } ∨
    s.mf = .sample .arm ∧ t = { s with busy := true, toArmed := true, toTicks := s.argw, mf := .sample .start } ∨
    s.mf = .sample .start ∧ t = { s with adcConv := true, mf := .sample .wait } ∨
    s.mf = .sample .wait ∧ t = (if waitOver s then s.standAt (.sample .leave) else s) ∨
    s.mf = .sample .leave ∧ t = s.leaveSample := by
  unfold execSample
  cases mf : s.mf with
  | idle =>
    simp only [reduceCtorEq, false_and, or_false, true_and]
    split
    · next noTimeout => simp [noTimeout]
    · next timeout =>
      simp only [ne_eq, timeout, not_false_eq_true, true_and]
      cases busy : s.busy <;> simp [eq_comm (a := t)]
  | sample position =>
    cases position <;> simp [State.armTimeout, State.standAt, eq_comm (a := t)]
  | flushRange | waitIdle => simp

/-- What SAMPLE may change (R144). -/
def SamplesOnly (s t : State) : Prop :=
  t = { s with
    mf := t.mf, busy := t.busy, timedOut := t.timedOut, adcEnable := t.adcEnable, adcConfig := t.adcConfig,
    adcConv := t.adcConv, toArmed := t.toArmed, toTicks := t.toTicks, cancels := t.cancels,
    cancelCalls := t.cancelCalls, resStatus := t.resStatus, resValue := t.resValue }

theorem State.leaveSample_samplesOnly (s : State) : SamplesOnly s s.leaveSample := by
  unfold State.leaveSample
  split <;> rfl

theorem execSample_samplesOnly {s t : State} (h : execSample s = .next t) : SamplesOnly s t := by
  rcases execSample_eq_next.mp h with
    ⟨-, -, -, rfl⟩ | ⟨-, rfl⟩ | ⟨-, rfl⟩ | ⟨-, rfl⟩ | ⟨-, rfl⟩ | ⟨-, rfl⟩
  · rfl
  · rfl
  · rfl
  · rfl
  · split <;> rfl
  · exact s.leaveSample_samplesOnly

/-- Settles O29: each step is one of the six, and both exits write fields of that list only. -/
theorem sampleFrame : Obligations.SampleFrame :=
  fun _ _ => execSample_samplesOnly

end Sys2Proof.Machine
end

section
/-! SUPPORT. The stores into FB are stores to bitmap bytes (R170), so index and pad bytes stay (R34, R176, R314). -/

namespace Sys2Proof.Machine

/-- `m'` is `m` after stores to bitmap bytes (R170). -/
def StoresBitmap (m m' : Memory) : Prop :=
  ∃ cells : List Host.Cell, (∀ c ∈ cells, isBitmapAddr c.1 = true) ∧ m' = Memory.writeAll .fb m cells

theorem isBitmapAddr_iff {a : Nat} : isBitmapAddr a = true ↔ a < 1344 ∧ a % 14 ≠ 0 ∧ a % 14 ≠ 13 := by
  simp [isBitmapAddr, and_assoc]

/-- The bytes of a line stand at consecutive addresses (R60). -/
theorem fbAddr_add (p k i : Nat) : fbAddr p k + i = fbAddr p (k + i) := Nat.add_assoc ..

/-- Byte-columns 1 to 12 of the 96 lines are bitmap bytes (R60). -/
theorem isBitmapAddr_fbAddr {p k : Nat} (line : p ≤ 95) (low : 1 ≤ k) (high : k ≤ 12) :
    isBitmapAddr (fbAddr p k) = true := by
  rw [isBitmapAddr_iff, fbAddr]
  omega

/-- Byte-columns 0 and 13 of a line are no bitmap bytes. -/
theorem not_isBitmapAddr_frame (p : Nat) :
    isBitmapAddr (fbAddr p 0) = false ∧ isBitmapAddr (fbAddr p 13) = false := by
  simp [isBitmapAddr, fbAddr]

theorem StoresBitmap.refl (m : Memory) : StoresBitmap m m := ⟨[], by simp, rfl⟩

theorem StoresBitmap.of_eq {m m' : Memory} (h : m' = m) : StoresBitmap m m' := h ▸ .refl m

theorem StoresBitmap.trans {m m' m'' : Memory} (first : StoresBitmap m m') (second : StoresBitmap m' m'') :
    StoresBitmap m m'' := by
  obtain ⟨cells, bitmap, rfl⟩ := first
  obtain ⟨cells', bitmap', rfl⟩ := second
  exact ⟨cells ++ cells', fun c hc => (List.mem_append.mp hc).elim (bitmap c) (bitmap' c), by simp [Memory.writeAll]⟩

theorem inside_of_bitmap {cells : List Host.Cell} (bitmap : ∀ c ∈ cells, isBitmapAddr c.1 = true) :
    ∀ c ∈ cells, c.1 < Space.fb.size :=
  fun c hc => (isBitmapAddr_iff.mp (bitmap c hc)).1

theorem StoresBitmap.wf {m m' : Memory} (h : StoresBitmap m m') (canonical : Memory.wf .fb m = true) :
    Memory.wf .fb m' = true := by
  obtain ⟨cells, bitmap, rfl⟩ := h
  exact Memory.wf_writeAll canonical (inside_of_bitmap bitmap)

/-- A byte that is no bitmap byte reads as before. -/
theorem StoresBitmap.read_eq {m m' : Memory} (h : StoresBitmap m m') (canonical : Memory.wf .fb m = true) {a : Nat}
    (frame : isBitmapAddr a = false) : Memory.read .fb m' a = Memory.read .fb m a := by
  obtain ⟨cells, bitmap, rfl⟩ := h
  refine Memory.read_writeAll_other canonical (inside_of_bitmap bitmap) ?_
  rintro c hc rfl
  exact Bool.false_ne_true (frame.symm.trans (bitmap c hc))

/-- Stores to bitmap bytes leave every line's index byte and pad byte (R176). -/
theorem StoresBitmap.fbByte_frame {s t : State} (h : StoresBitmap s.fb t.fb) (canonical : Memory.wf .fb s.fb = true)
    (p : Nat) : t.fbByte p 0 = s.fbByte p 0 ∧ t.fbByte p 13 = s.fbByte p 13 :=
  ⟨h.read_eq canonical (not_isBitmapAddr_frame p).1, h.read_eq canonical (not_isBitmapAddr_frame p).2⟩

/-! ### What each operation stores -/

/-- A text that fits stands in byte-columns 1 to 12 (R171, R174). -/
theorem renderText_storesBitmap {text : List Byte} {line col : Nat} {inverted : Bool} {s t : State}
    (h : renderText text line col inverted s = .next t) : StoresBitmap s.fb t.fb := by
  obtain ⟨fits, cells, drawn, rfl⟩ := renderText_eq_next.mp h
  refine ⟨cells, ?_, rfl⟩
  rintro ⟨a, b⟩ stored
  obtain ⟨i, r, char, row, rfl⟩ := textCells_place drawn stored
  rw [textFits_iff] at fits
  exact isBitmapAddr_fbAddr (by omega) (by omega) (by omega)

theorem renderAt_storesBitmap {text : List Byte} {p : Place} {inverted : Bool} {s t : State}
    (h : renderAt text p inverted s = .next t) : StoresBitmap s.fb t.fb :=
  renderText_storesBitmap h

/-- A text drawn before a state with the same FB is answered. -/
theorem andThen_renderAt_storesBitmap {text : List Byte} {p : Place} {inverted : Bool} {s t : State}
    {k : State → Result} (h : andThen (renderAt text p inverted s) k = .next t)
    (rest : ∀ u, k u = .next t → StoresBitmap u.fb t.fb) : StoresBitmap s.fb t.fb := by
  obtain ⟨u, drawn, done⟩ := andThen_eq_next.mp h
  exact (renderAt_storesBitmap drawn).trans (rest u done)

/-- The bounds of WRITE_REGION, as inequalities. -/
theorem regionFits_iff {n line col : Nat} :
    regionFits n line col = true ↔ 1 ≤ n ∧ n ≤ 12 ∧ line ≤ 95 ∧ col + n ≤ 12 := by
  simp [regionFits, and_assoc]

/-- WRITE_REGION inside its bounds is its stores and the end of the operation (R173). -/
theorem exec_writeRegion_eq_next {line col : Byte} {s t : State} : exec (.writeRegion line col) s = .next t ↔
    s.mf = .idle ∧ regionFits s.payLen.val line.toNat col.toNat = true ∧
      t = (s.storeFb (regionCells line.toNat col.toNat s.payload)).finish := by
  rw [exec, execWriteRegion, whenIdle_eq_next]
  split <;> simp [*, eq_comm (a := t)]

/-- The bytes of a region that fits stand in byte-columns 1 to 12 of their line (R173, R174). -/
theorem regionCells_bitmap {line col : Nat} {bytes : List Byte} (fits : regionFits bytes.length line col = true) :
    ∀ c ∈ regionCells line col bytes, isBitmapAddr c.1 = true := by
  rintro ⟨a, b⟩ stored
  obtain ⟨i, rfl, byte⟩ := mem_cellsFrom.mp stored
  have bound := (List.getElem?_eq_some_iff.mp byte).1
  rw [regionFits_iff] at fits
  rw [fbAddr_add]
  exact isBitmapAddr_fbAddr (by omega) (by omega) (by omega)

theorem drawIndicator_storesBitmap {on : Byte} {p : Place} {inverted : Bool} {onText offText : List Byte} {s t : State}
    (h : drawIndicator on p inverted onText offText s = .next t) : StoresBitmap s.fb t.fb := by
  unfold drawIndicator at h
  split at h
  · exact andThen_renderAt_storesBitmap h fun u done => by cases done; exact .refl _
  · cases h

theorem drawFix_storesBitmap {latText latInd lonText lonInd : List Byte} {s t : State}
    (h : drawFix latText latInd lonText lonInd s = .next t) : StoresBitmap s.fb t.fb :=
  andThen_renderAt_storesBitmap h fun _ h => andThen_renderAt_storesBitmap h fun _ h =>
    andThen_renderAt_storesBitmap h fun _ h => andThen_renderAt_storesBitmap h fun _ done => by
      cases done; exact .refl _

/-- An operation that draws nothing leaves FB. -/
theorem TransfersOnly.storesBitmap {s t : State} (h : TransfersOnly s t) : StoresBitmap s.fb t.fb :=
  .of_eq (by rw [h])

/-- Every operation's stores into FB go to bitmap bytes (R176). -/
theorem exec_storesBitmap {i : Instr} {s t : State} (h : exec i s = .next t) : StoresBitmap s.fb t.fb := by
  cases i with
  | sample => exact .of_eq (by rw [execSample_samplesOnly h])
  | refreshConfigure =>
    have body := (whenIdle_eq_next.mp h).2
    split at body <;> cases body
    exact .refl _
  | writeText line col =>
    exact andThen_renderAt_storesBitmap (p := ⟨line.toNat, col.toNat⟩) (whenIdle_eq_next.mp h).2
      fun u done => by cases done; exact .refl _
  | writeRegion =>
    obtain ⟨-, fits, rfl⟩ := exec_writeRegion_eq_next.mp h
    exact ⟨_, regionCells_bitmap (by rwa [State.payload_length]), rfl⟩
  | ovClock =>
    have body := (whenIdle_eq_next.mp h).2
    split at body
    · exact andThen_renderAt_storesBitmap body fun u done => by cases done; exact .refl _
    · cases body
  | ovBattery =>
    have body := (whenIdle_eq_next.mp h).2
    split at body
    · split at body
      · cases body
        exact .refl _
      · exact andThen_renderAt_storesBitmap body fun u done => by cases done; exact .refl _
    · cases body
  | ovConnection | ovSampling => exact drawIndicator_storesBitmap (whenIdle_eq_next.mp h).2
  | ovFix =>
    have body := (whenIdle_eq_next.mp h).2
    split at body
    · exact drawFix_storesBitmap body
    · split at body
      · exact drawFix_storesBitmap body
      · cases body
  | clearScreen => exact (execClearScreen_transfersOnly h).storesBitmap
  | flushLine => exact (execFlushLine_transfersOnly h).storesBitmap
  | flushRange => exact (flushLines_transfersOnly h).storesBitmap
  | flushAll => exact (flushLines_transfersOnly (start := 0) (stop := 96) h).storesBitmap
  | waitIdle => exact (execWaitIdle_transfersOnly h).storesBitmap
  | cmdClear | cmdWriteOneLine | cmdWriteMultipleLines => exact (sendCommand_transfersOnly h).storesBitmap

/-- Settles O33: an operation's stores go to bitmap bytes. -/
theorem indexAndPadKept : Obligations.IndexAndPadKept :=
  fun _ _ _ p canonical h => (exec_storesBitmap h).fbByte_frame canonical p

end Sys2Proof.Machine
end

section
/-! SUPPORT. The invariant part by part (R34, R47): what every operation and every agent keeps, and the statements about
the invariant. -/

namespace Sys2Proof.Machine

/-- The parts of the invariant, by name. -/
structure InvParts (s : State) : Prop where
  sampler : samplerInv s = true
  bus : busInv s = true
  refresh : refreshInv s = true
  command : commandInv s = true
  frame : frameInv s = true
  memory : memoryInv s = true
  battery : batteryInv s = true

theorem inv_iff_parts {s : State} : inv s = true ↔ InvParts s := by
  simp only [inv, Bool.and_eq_true]
  constructor
  · rintro ⟨⟨⟨⟨⟨⟨sampler, bus⟩, refresh⟩, command⟩, frame⟩, memory⟩, battery⟩
    exact ⟨sampler, bus, refresh, command, frame, memory, battery⟩
  · rintro ⟨sampler, bus, refresh, command, frame, memory, battery⟩
    exact ⟨⟨⟨⟨⟨⟨sampler, bus⟩, refresh⟩, command⟩, frame⟩, memory⟩, battery⟩

theorem memoryInv_iff {s : State} : memoryInv s = true ↔
    Memory.wf .fb s.fb = true ∧ Memory.wf .scratch s.scratch = true ∧ Memory.wf .pay s.pay = true := by
  simp [memoryInv, and_assoc]

/-- Stores to bitmap bytes keep the frame-buffer invariants (R34). -/
theorem frameInv_of_storesBitmap {s t : State} (stores : StoresBitmap s.fb t.fb) (canonical : Memory.wf .fb s.fb = true)
    (frame : frameInv s = true) : frameInv t = true := by
  refine List.all_eq_true.mpr fun p hp => ?_
  have framed : lineFramed s p = true := List.all_eq_true.mp frame p hp
  obtain ⟨index, pad⟩ := stores.fbByte_frame canonical p
  rwa [lineFramed, index, pad]

/-- Outside SAMPLE the sampler's part says that nothing of it is live (R47(e)). -/
theorem samplerInv_eq_quiet {s : State} (outside : s.mf.op ≠ some "SAMPLE") : samplerInv s = samplerQuiet s := by
  unfold samplerInv
  cases mf : s.mf with
  | sample => simp [mf, MainFlow.op] at outside
  | idle | flushRange | waitIdle => rfl

/-! ### Operations that draw -/

/-- A drawing operation keeps the invariant if the cache it leaves is a percentage or nothing. -/
theorem InvParts.draws {s t : State} (h : InvParts s) (atRest : s.mf = .idle) (draws : DrawsOnly s t)
    (stores : StoresBitmap s.fb t.fb) (battery : batteryInv t = true) : InvParts t := by
  have same : t = { s with fb := t.fb, battPrev := t.battPrev, resStatus := 0 } := draws.trans (by rw [← atRest])
  obtain ⟨fb, scratch, pay⟩ := memoryInv_iff.mp h.memory
  refine ⟨?_, ?_, ?_, ?_, frameInv_of_storesBitmap stores fb h.frame,
    memoryInv_iff.mpr ⟨stores.wf fb, ?_, ?_⟩, battery⟩
  all_goals rw [same]
  exacts [h.sampler, h.bus, h.refresh, h.command, scratch, pay]

/-- The overlay writers leave the cache as it was or, OV_BATTERY, at a percentage (R37, R192). -/
theorem EndsDrawing.battPrev {regions : List (Place × Nat)} {prev : Option Nat} {s t : State}
    (h : EndsDrawing regions prev s t) : t.battPrev = prev := by
  obtain ⟨u, -, rfl⟩ := h
  rfl

theorem batteryInv_of_eq {s t : State} (h : batteryInv s = true) (same : t.battPrev = s.battPrev) :
    batteryInv t = true := by
  rwa [batteryInv, same]

/-- OV_BATTERY runs on a percentage only (R192). -/
theorem execOvBattery_range {pct : Byte} {s t : State} (h : execOvBattery pct s = .next t) : pct.toNat ≤ 100 := by
  have body := (whenIdle_eq_next.mp h).2
  split at body
  · assumption
  · cases body

/-! ### Operations of the transfer protocol -/

/-- A segment that starts lies inside its space (R39). -/
theorem segmentInside_withSegment {s : State} {src : BusSource} {addr n : Nat} {mode : CsMode} (nonempty : 1 ≤ n)
    (inside : addr + n ≤ src.space.size) : segmentInside (s.withSegment src addr n mode) = true := by
  simp [segmentInside, nonempty, inside]

/-- At rest with an `Auto` segment the bus is as the invariant has it (R214). -/
theorem busInv_withSegment_auto {s : State} {src : BusSource} {addr n : Nat} (atRest : s.mf = .idle) (nonempty : 1 ≤ n)
    (inside : addr + n ≤ src.space.size) : busInv (s.withSegment src addr n .auto) = true := by
  simp [busInv, segmentInside_withSegment nonempty inside, atRest]

/-- Staged bytes leave SCRATCH canonical (R35). -/
theorem State.stage_canonical {s : State} {bytes : List Byte} (canonical : Memory.wf .scratch s.scratch = true)
    (fits : bytes.length ≤ 16) : Memory.wf .scratch (s.stage bytes).scratch = true :=
  Memory.wf_writeAll canonical (cellsFrom_inside (by simpa [Space.size] using fits))

/-- A transfer operation outside SAMPLE keeps the invariant if it keeps the parts about the bus, the command and
SCRATCH. -/
theorem InvParts.transfers {s t : State} (h : InvParts s) (transfers : TransfersOnly s t)
    (outside : s.mf.op ≠ some "SAMPLE") (outside' : t.mf.op ≠ some "SAMPLE") (bus : busInv t = true)
    (command : commandInv t = true) (scratch : Memory.wf .scratch t.scratch = true) : InvParts t := by
  have sampler := (samplerInv_eq_quiet outside).symm.trans h.sampler
  obtain ⟨fb, -, pay⟩ := memoryInv_iff.mp h.memory
  refine ⟨(samplerInv_eq_quiet outside').trans ?_, bus, ?_, command, ?_, memoryInv_iff.mpr ⟨?_, scratch, ?_⟩, ?_⟩
  all_goals rw [transfers]
  exacts [sampler, h.refresh, h.frame, fb, pay, h.battery]

/-- A flush of the lines in the command word keeps the invariant at each of its steps (R217). -/
theorem InvParts.flushLines {s t : State} {a b : Byte} (h : InvParts s) (taken : s.cwWritten = false)
    (holds : decode s.cw = .ok (.flushRange a b)) (run : flushLines a.toNat b.toNat s = .next t) : InvParts t := by
  have changes := flushLines_transfersOnly run
  have bus := h.bus
  obtain ⟨-, scratch, -⟩ := memoryInv_iff.mp h.memory
  obtain ⟨⟨ordered, inRange⟩, step⟩ := flushLines_eq_next.mp run
  rcases step with ⟨atRest, idle, rfl⟩ | ⟨waits, rfl⟩ | ⟨sends, idle, rfl⟩
  · refine h.transfers changes ?_ ?_ ?_ ?_ ?_
    · simp [atRest, MainFlow.op]
    · simp [State.standAt, MainFlow.op]
    · simp [busInv, segmentInside, State.standAt, BusSource.space, Space.size]
    · simp [commandInv, State.standAt, taken, holds, ordered, inRange]
    · simpa [State.standAt] using State.stage_canonical (bytes := [s.cfg.cmdWriteMultipleLines]) scratch (by simp)
  · cases active : s.busActive with
    | true => exact h
    | false =>
      rw [active] at changes
      refine h.transfers changes ?_ ?_ ?_ ?_ scratch
      · simp [waits, MainFlow.op]
      · simp [State.standAt, MainFlow.op]
      · simp_all [busInv, segmentInside, State.standAt]
      · simp [commandInv, State.standAt, taken, holds, ordered, inRange]
  · refine h.transfers changes ?_ ?_ ?_ ?_ ?_
    · simp [sends, MainFlow.op]
    · simp [MainFlow.op]
    · refine busInv_withSegment_auto rfl (by omega) ?_
      show 14 * a.toNat + 14 * (b.toNat - a.toNat) ≤ 1344
      omega
    · simp [commandInv]
    · simpa using scratch

/-- A segment of staged bytes that starts at rest keeps the invariant (R215, R216). -/
theorem InvParts.stages {s : State} {bytes : List Byte} {n : Nat} (h : InvParts s) (atRest : s.mf = .idle)
    (fits : bytes.length ≤ 16) (nonempty : 1 ≤ n) (inside : n ≤ 16)
    (changes : TransfersOnly s ((s.stage bytes).finish.withSegment .scratch 0 n .auto)) :
    InvParts ((s.stage bytes).finish.withSegment .scratch 0 n .auto) := by
  obtain ⟨-, scratch, -⟩ := memoryInv_iff.mp h.memory
  refine h.transfers changes ?_ ?_ (busInv_withSegment_auto rfl nonempty ?_) ?_ ?_
  · simp [atRest, MainFlow.op]
  · simp [MainFlow.op]
  · simpa [BusSource.space, Space.size] using inside
  · simp [commandInv]
  · simpa using State.stage_canonical scratch fits

/-- WAIT_IDLE keeps the invariant (R219). -/
theorem InvParts.waitIdle {s t : State} (h : InvParts s) (taken : s.cwWritten = false)
    (holds : decode s.cw = .ok .waitIdle) (run : exec .waitIdle s = .next t) : InvParts t := by
  have changes := execWaitIdle_transfersOnly run
  have bus := h.bus
  obtain ⟨-, scratch, -⟩ := memoryInv_iff.mp h.memory
  obtain ⟨position, rfl⟩ := exec_waitIdle_eq_next.mp run
  have outside : s.mf.op ≠ some "SAMPLE" := by rcases position with mf | mf <;> simp [mf, MainFlow.op]
  cases active : s.busActive with
  | true =>
    rw [active] at changes
    refine h.transfers changes outside ?_ ?_ ?_ scratch
    · simp [State.standAt, MainFlow.op]
    · rcases position with mf | mf <;> simp_all [busInv, segmentInside, State.standAt]
    · simp [commandInv, State.standAt, taken, holdsCommand, holds]
  | false =>
    rw [active] at changes
    refine h.transfers changes outside ?_ ?_ ?_ scratch
    · simp [MainFlow.op]
    · rcases position with mf | mf <;> simp_all [busInv, segmentInside]
    · simp [commandInv]

/-! ### SAMPLE and REFRESH_CONFIGURE -/

/-- SAMPLE keeps the sampler's part at each of its steps (R131 to R133). -/
theorem execSample_samplerInv {s t : State} (sampler : samplerInv s = true) (noCompletion : s.irqAdc = false)
    (run : execSample s = .next t) : samplerInv t = true := by
  rcases execSample_eq_next.mp run with
    ⟨mf, -, -, rfl⟩ | ⟨mf, rfl⟩ | ⟨mf, rfl⟩ | ⟨mf, rfl⟩ | ⟨mf, rfl⟩ | ⟨mf, rfl⟩
  · simp_all [samplerInv, samplerQuiet]
  · simp_all [samplerInv, samplerQuiet]
  · simp_all [samplerInv]
  · simp_all [samplerInv, samplerInFlight]
  · split
    · simp_all [samplerInv, samplerInFlight, State.standAt, waitOver]
    · exact sampler
  · unfold State.leaveSample
    cases busy : s.busy <;> split <;>
      simp_all [samplerInv, samplerInFlight, samplerQuiet, waitOver, State.leaveTimedOut, State.leaveWithSample]

/-- SAMPLE answers from idle or from within SAMPLE, and stays there. -/
theorem execSample_positions {s t : State} (run : execSample s = .next t) :
    (s.mf = .idle ∨ ∃ p, s.mf = .sample p) ∧ (t.mf = .idle ∨ ∃ p, t.mf = .sample p) := by
  rcases execSample_eq_next.mp run with
    ⟨mf, -, -, rfl⟩ | ⟨mf, rfl⟩ | ⟨mf, rfl⟩ | ⟨mf, rfl⟩ | ⟨mf, rfl⟩ | ⟨mf, rfl⟩
  · simp [mf]
  · simp [mf]
  · simp [mf]
  · simp [mf]
  · split <;> simp [mf, State.standAt]
  · simp [mf]

/-- Outside FLUSH_RANGE the bus part does not depend on the position. -/
theorem busInv_outside_flushRange {s : State} (outside : s.mf.op ≠ some "FLUSH_RANGE") :
    busInv s = (segmentInside s && if s.busActive then s.cs && s.busMode = .auto else !s.cs) := by
  unfold busInv
  cases mf : s.mf with
  | flushRange => simp [mf, MainFlow.op] at outside
  | idle | sample | waitIdle => rfl

/-- SAMPLE keeps the invariant at each of its steps (R131 to R133). -/
theorem InvParts.samples {s t : State} (h : InvParts s) (taken : s.cwWritten = false) (noCompletion : s.irqAdc = false)
    (holds : decode s.cw = .ok .sample) (run : execSample s = .next t) : InvParts t := by
  have changes := execSample_samplesOnly run
  obtain ⟨before, after⟩ := execSample_positions run
  have outside : s.mf.op ≠ some "FLUSH_RANGE" := by rcases before with mf | ⟨p, mf⟩ <;> simp [mf, MainFlow.op]
  have outside' : t.mf.op ≠ some "FLUSH_RANGE" := by rcases after with mf | ⟨p, mf⟩ <;> simp [mf, MainFlow.op]
  have bus := (busInv_outside_flushRange outside).symm.trans h.bus
  have cw : t.cw = s.cw := by rw [changes]
  have written : t.cwWritten = s.cwWritten := by rw [changes]
  refine ⟨execSample_samplerInv h.sampler noCompletion run, (busInv_outside_flushRange outside').trans ?_, ?_, ?_,
    ?_, ?_, ?_⟩
  case refine_3 => rcases after with mf | ⟨p, mf⟩ <;> simp [commandInv, mf, holdsCommand, cw, written, taken, holds]
  all_goals rw [changes]
  exacts [bus, h.refresh, h.frame, h.memory, h.battery]

/-- REFRESH_CONFIGURE keeps the invariant (R241). -/
theorem InvParts.configures {s t : State} (h : InvParts s) (run : execRefreshConfigure s = .next t) : InvParts t := by
  obtain ⟨atRest, body⟩ := whenIdle_eq_next.mp run
  split at body
  · cases body
  · cases body
    have rest : s.finish = { s with resStatus := 0 } := by rw [State.finish, ← atRest]
    have refresh := h.refresh
    rw [rest]
    refine { h with refresh := ?_ }
    have positive : 0 < 2 ^ s.cfg.timerBits := Nat.two_pow_pos _
    simp_all [refreshInv, Nat.mod_lt]

/-! ### Every operation the command word can hold -/

/-- The command word holds no wire command (R99). -/
theorem not_wire_of_decode {w : Word} {i : Instr} (decoded : decode w = .ok i) :
    i ≠ .cmdClear ∧ i ≠ .cmdWriteOneLine ∧ i ≠ .cmdWriteMultipleLines := by
  have word := encodeOfDecode w i decoded
  refine ⟨?_, ?_, ?_⟩ <;> rintro rfl <;> cases word

/-- The operation in the command word keeps the invariant, with no completion pending (R23, R266). -/
theorem InvParts.exec {i : Instr} {s t : State} (h : InvParts s) (taken : s.cwWritten = false)
    (noCompletion : s.irqAdc = false) (holds : decode s.cw = .ok i) (run : exec i s = .next t) : InvParts t := by
  have stores := exec_storesBitmap run
  have cacheKept {regions : List (Place × Nat)} (ends : EndsDrawing regions s.battPrev s t) : batteryInv t = true :=
    batteryInv_of_eq h.battery ends.battPrev
  cases i with
  | sample => exact h.samples taken noCompletion holds run
  | refreshConfigure => exact h.configures run
  | writeText line col =>
    obtain ⟨atRest, body⟩ := whenIdle_eq_next.mp run
    exact h.draws atRest (execWriteText_drawsOnly run) stores
      (cacheKept (renderAt_finish_endsDrawing (p := ⟨line.toNat, col.toNat⟩) body (List.mem_singleton_self _)))
  | writeRegion =>
    obtain ⟨atRest, -, rfl⟩ := exec_writeRegion_eq_next.mp run
    exact h.draws atRest rfl stores h.battery
  | ovClock =>
    exact h.draws (whenIdle_eq_next.mp run).1 (execOvClock_drawsOnly run) stores
      (cacheKept (execOvClock_endsDrawing run))
  | ovBattery pct =>
    have cached : t.battPrev = some pct.toNat := (execOvBattery_endsDrawing run).battPrev
    exact h.draws (whenIdle_eq_next.mp run).1 (execOvBattery_drawsOnly run) stores
      (by simpa [batteryInv, cached] using execOvBattery_range run)
  | ovConnection | ovSampling =>
    obtain ⟨atRest, body⟩ := whenIdle_eq_next.mp run
    exact h.draws atRest (drawIndicator_drawsOnly body) stores (cacheKept (drawIndicator_endsDrawing body))
  | ovFix =>
    exact h.draws (whenIdle_eq_next.mp run).1 (execOvFix_drawsOnly run) stores
      (cacheKept (execOvFix_endsDrawing run))
  | clearScreen =>
    have changes := execClearScreen_transfersOnly run
    obtain ⟨atRest, -, rfl⟩ := exec_clearScreen_eq_next.mp run
    exact h.stages atRest (by simp [clearBytes]) (by decide) (by decide) changes
  | flushLine =>
    have changes := execFlushLine_transfersOnly run
    obtain ⟨atRest, -, -, rfl⟩ := exec_flushLine_eq_next.mp run
    exact h.stages atRest (by simp [singleLineBytes, State.loadBytes]) (by decide) (by decide) changes
  | flushRange => exact h.flushLines taken holds run
  | waitIdle => exact h.waitIdle taken holds run
  | flushAll => cases canonical_of_decode holds
  | cmdClear | cmdWriteOneLine | cmdWriteMultipleLines => simpa using not_wire_of_decode holds

/-- Only a written command that has been taken is away from idle (R23, log 1). -/
theorem InvParts.takeCommand {s : State} (h : InvParts s) : InvParts s.takeCommand := by
  refine { h with command := ?_ }
  have command := h.command
  cases mf : s.mf <;> simp_all [commandInv, holdsCommand]

theorem InvParts.mainFlowStep {s t : State} (h : InvParts s) (free : s.mainFlowFree = true)
    (run : mainFlowStep s = .next t) : InvParts t := by
  have noCompletion : s.irqAdc = false := by simp_all [State.mainFlowFree]
  unfold Machine.mainFlowStep at run
  split at run
  · next i holds => exact h.takeCommand.exec rfl noCompletion holds run
  · cases run

/-! ### The agents -/

/-- The refresh chain's part, configured and before (R43, R47(g), R48). -/
theorem refreshInv_iff {s : State} : refreshInv s = true ↔
    (s.timerCnt < 2 ^ s.cfg.timerBits ∧ s.timerCc < 2 ^ s.cfg.timerBits) ∧
    (s.refConfigured = true → s.fabricChEn = true ∧ s.gpioMode = .toggle ∧ s.timerIntenCmp = true) ∧
    (s.refConfigured = false →
      s.fabricChEn = false ∧ s.gpioMode = .off ∧ s.timerIntenCmp = false ∧ s.irqCmp = false ∧ s.toggles = 0) := by
  cases configured : s.refConfigured <;> simp [refreshInv, configured, and_assoc]

/-- A conversion in flight or a pending completion belongs to a request that SAMPLE waits for or leaves (R47(c)). -/
theorem request_of_conversion {s : State} (h : samplerInv s = true) (live : s.adcConv = true ∨ s.irqAdc = true) :
    (s.mf = .sample .wait ∨ s.mf = .sample .leave) ∧ samplerInFlight s = true ∧ s.busy = true := by
  cases mf : s.mf with
  | sample position => cases position <;> cases busy : s.busy <;> simp_all [samplerInv, samplerQuiet, samplerInFlight]
  | idle | flushRange | waitIdle => simp_all [samplerInv, samplerQuiet]

/-- An armed timeout belongs to a request that SAMPLE starts, waits for or leaves, and has not fired (R47(d)). -/
theorem request_of_armed {s : State} (h : samplerInv s = true) (armed : s.toArmed = true) :
    (s.mf = .sample .start ∨ s.mf = .sample .wait ∨ s.mf = .sample .leave) ∧ s.busy = true ∧ s.timedOut = false := by
  cases mf : s.mf with
  | sample position => cases position <;> cases busy : s.busy <;> simp_all [samplerInv, samplerQuiet, samplerInFlight]
  | idle | flushRange | waitIdle => simp_all [samplerInv, samplerQuiet]

/-- The completion of the conversion in flight raises its interrupt (R134). -/
theorem samplerInv_adcComplete {s : State} (v : Byte) (h : samplerInv s = true) (converting : s.adcConv = true) :
    samplerInv (adcComplete v s) = true := by
  obtain ⟨mf | mf, inFlight, busy⟩ := request_of_conversion h (.inl converting) <;>
    simp_all [samplerInv, samplerInFlight, adcComplete, waitOver]

/-- The completion handler ends the request (R135). -/
theorem samplerInv_hAdc {s : State} (h : samplerInv s = true) (pending : s.irqAdc = true) :
    samplerInv (takeInterrupt s .adcCompletion) = true := by
  obtain ⟨mf | mf, inFlight, busy⟩ := request_of_conversion h (.inr pending) <;>
    simp_all [samplerInv, samplerInFlight, takeInterrupt, waitOver]

/-- The expiry exchanges the armed timeout for the flag (R137). -/
theorem samplerInv_toFire {s : State} (h : samplerInv s = true) (armed : s.toArmed = true) :
    samplerInv (takeInterrupt s .timeoutExpiry) = true := by
  obtain ⟨mf | mf | mf, busy, notFired⟩ := request_of_armed h armed <;>
    simp_all [samplerInv, samplerInFlight, takeInterrupt, waitOver]

/-- The compare event leaves the chain as it is, and before configuration counts no toggle and raises nothing (R244). -/
theorem refreshInv_cmpMatch {s : State} (h : refreshInv s = true) : refreshInv (cmpMatch s) = true := by
  rw [refreshInv_iff] at h ⊢
  obtain ⟨bounds, on, off⟩ := h
  refine ⟨bounds, on, fun before => ?_⟩
  obtain ⟨channel, mode, interrupt, unraised, zero⟩ := off before
  exact ⟨channel, mode, interrupt, by simp [cmpMatch, interrupt, unraised],
    by simp [cmpMatch, toggleLinked, channel, zero]⟩

/-- The engine's step leaves the rest of the segment inside its space, and releases `CS` where the segment ends as an
`Auto` one (R211, R214). -/
theorem InvParts.busByte {s t : State} (h : InvParts s) (active : s.busActive = true) (run : busByte s = .next t) :
    InvParts t := by
  have bus := h.bus
  obtain ⟨left, inside⟩ := segment_of_inv (inv_iff_parts.mpr h) active
  obtain ⟨-, rfl⟩ := busByte_eq_next.mp run
  refine { h with bus := ?_ }
  unfold busInv at bus ⊢
  rw [Bool.and_eq_true] at bus ⊢
  obtain ⟨-, bus⟩ := bus
  refine ⟨?segment, ?position⟩
  case segment =>
    simp only [segmentInside, active, Bool.true_and, Bool.or_eq_true, Bool.not_eq_true', decide_eq_false_iff_not,
      Bool.and_eq_true, decide_eq_true_eq]
    omega
  case position =>
    by_cases last : s.busRem ≤ 1
    · cases mf : s.mf with
      | flushRange position => cases position <;> simp_all
      | _ => simp_all
    · have more : 2 ≤ s.busRem := by omega
      simpa [active, last, more] using bus

/-- A step of an agent other than the main flow keeps the invariant (R266). -/
theorem InvParts.agentStep {m : Move} {s t : State} (h : InvParts s) (can : enabled s m = true)
    (run : agentStep s m = .next t) : InvParts t := by
  have positive : 0 < 2 ^ s.cfg.timerBits := Nat.two_pow_pos _
  obtain ⟨⟨counter, compare⟩, chain⟩ := refreshInv_iff.mp h.refresh
  cases m with
  | busByte => exact h.busByte can run
  | mainFlow =>
    cases run
    exact h
  | adcComplete v =>
    cases run
    have converting : s.adcConv = true := by simp_all [enabled]
    exact { h with sampler := samplerInv_adcComplete v h.sampler converting }
  | hAdc =>
    cases run
    exact { h with sampler := samplerInv_hAdc h.sampler can }
  | toFire =>
    cases run
    exact { h with sampler := samplerInv_toFire h.sampler can }
  | hCmp =>
    cases run
    refine { h with refresh := refreshInv_iff.mpr ⟨⟨counter, Nat.mod_lt _ positive⟩, chain.1, fun before => ?_⟩ }
    obtain ⟨channel, mode, interrupt, -, zero⟩ := chain.2 before
    exact ⟨channel, mode, interrupt, rfl, zero⟩
  | timerTick =>
    cases run
    exact { h with refresh := refreshInv_iff.mpr ⟨⟨Nat.mod_lt _ positive, compare⟩, chain⟩ }
  | cmpMatch =>
    cases run
    exact { h with refresh := refreshInv_cmpMatch h.refresh }
  | hostArgw | hostPayLen =>
    cases run
    exact { h with }
  | hostPay i b =>
    cases run
    obtain ⟨fb, scratch, pay⟩ := memoryInv_iff.mp h.memory
    exact { h with memory := memoryInv_iff.mpr ⟨fb, scratch, Memory.wf_write b pay i.isLt⟩ }
  | hostCommand cw =>
    cases run
    refine { h with command := ?_ }
    have atRest : s.mf = .idle := by simp_all [enabled, hostEnabled]
    simp [commandInv, hostCommand, atRest]

/-- Every move keeps the invariant (R34, R47). -/
theorem perform_keeps_inv {m : Move} {s t : State} (h : inv s = true) (run : perform m s = .next t) : inv t = true := by
  rw [inv_iff_parts] at h ⊢
  rcases perform_cases run with ⟨can, rfl, main⟩ | ⟨can, -, agent⟩ | ⟨-, rfl⟩
  · have free : s.mainFlowFree = true := by simp_all [enabled, mainFlowEnabled]
    exact h.mainFlowStep free main
  · exact h.agentStep can agent
  · exact h

/-- Which choices the environment has left is no part of the invariant (log 2). -/
theorem inv_consumeMove (s : State) : inv s.consumeMove = inv s := by
  unfold State.consumeMove
  split <;> rfl

/-- Settles O9: the chosen move keeps the invariant, whatever it is. -/
theorem stepKeepsInvariant : Obligations.StepKeepsInvariant := by
  intro s t h stepped
  exact perform_keeps_inv (s := s.consumeMove) ((inv_consumeMove s).trans h) stepped

end Sys2Proof.Machine
end

section
/-! SUPPORT. Power-up (R48), the absence of faults (93), and what the invariant says in the terms of R47 and R26; the
statements about them. -/

namespace Sys2Proof.Machine

/-! ### Power-up -/

/-- A line of a frame buffer nothing has written has its index byte and its pad byte (R48). -/
theorem lineFramed_of_unwritten {s : State} (unwritten : s.fb = []) (p : Nat) : lineFramed s p = true := by
  simp [lineFramed, State.fbByte, State.load, State.mem, unwritten, Memory.read, unlisted, fbAddr]

theorem powerUp_fb_storesBitmap (cfg : Config) (u : PowerUp) : StoresBitmap [] (State.powerUp cfg u).fb :=
  ⟨_, fun _ hc => (List.mem_filter.mp hc).2, rfl⟩

/-- What power-up leaves meets each part of the invariant (R48). -/
theorem powerUp_parts (cfg : Config) (u : PowerUp) : InvParts (State.powerUp cfg u) := by
  have positive : 0 < 2 ^ cfg.timerBits := Nat.two_pow_pos _
  have unwritten : frameInv { State.powerUp cfg u with fb := [] } = true :=
    List.all_eq_true.mpr fun p _ => lineFramed_of_unwritten rfl p
  have fb := powerUp_fb_storesBitmap cfg u
  refine ⟨rfl, rfl, ?refresh, rfl, frameInv_of_storesBitmap fb rfl unwritten, ?memory, rfl⟩
  case refresh => exact refreshInv_iff.mpr ⟨⟨Nat.mod_lt _ positive, Nat.mod_lt _ positive⟩, by simp [State.powerUp]⟩
  case memory =>
    refine memoryInv_iff.mpr ⟨fb.wf rfl, Memory.wf_writeAll rfl (cellsFrom_inside ?_),
      Memory.wf_writeAll rfl (cellsFrom_inside ?_)⟩
    all_goals simp [Space.size]

/-- Settles O11: part by part. -/
theorem powerUpMeetsInvariant : Obligations.PowerUpMeetsInvariant :=
  fun cfg u => inv_iff_parts.mpr (powerUp_parts cfg u)

/-- Settles O10: the reset state is one of those power-up leaves. -/
theorem resetMeetsInvariant : Obligations.ResetMeetsInvariant :=
  powerUpMeetsInvariant Config.fixture PowerUp.zero

/-- Settles O58: the fixed values are those power-up writes, and the lines are framed by the invariant. -/
theorem powerUpValues : Obligations.PowerUpValues := by
  intro cfg u
  refine ⟨rfl, rfl, rfl, rfl, rfl, rfl, rfl, rfl, rfl, rfl, rfl, rfl, rfl, rfl, rfl, rfl, rfl, rfl, rfl, rfl, rfl, ?_⟩
  exact fun p hp => fbByte_frame_of_inv (powerUpMeetsInvariant cfg u) hp

/-! ### No fault -/

theorem renderAt_no_fault {text : List Byte} {p : Place} {inverted : Bool} {s : State} {f : Fault} :
    renderAt text p inverted s ≠ .fault f :=
  renderText_no_fault

theorem execSample_no_fault {s : State} {f : Fault} : execSample s ≠ .fault f := by
  unfold execSample
  split
  · split
    · simp
    · split <;> simp
  all_goals simp

theorem drawIndicator_no_fault {on : Byte} {p : Place} {inverted : Bool} {onText offText : List Byte} {s : State}
    {f : Fault} : drawIndicator on p inverted onText offText s ≠ .fault f := by
  unfold drawIndicator
  split
  · simp [andThen_eq_fault, renderAt_no_fault]
  · simp

theorem drawFix_no_fault {latText latInd lonText lonInd : List Byte} {s : State} {f : Fault} :
    drawFix latText latInd lonText lonInd s ≠ .fault f := by
  simp [drawFix, andThen_eq_fault, renderAt_no_fault]

theorem flushLines_no_fault {start stop : Nat} {s : State} {f : Fault} : flushLines start stop s ≠ .fault f := by
  unfold flushLines
  split
  · split <;> simp [andThen_eq_fault, transferAsync_no_fault]
  · simp

theorem execWaitIdle_no_fault {s : State} {f : Fault} : execWaitIdle s ≠ .fault f := by
  unfold execWaitIdle
  split <;> simp

/-- The operation in the command word never faults: the one fault is the bus engine's (log 15). -/
theorem exec_no_fault {i : Instr} {s : State} {f : Fault} {w : Word} (decoded : decode w = .ok i) :
    exec i s ≠ .fault f := by
  cases i with
  | sample => exact execSample_no_fault
  | waitIdle => exact execWaitIdle_no_fault
  | flushRange => exact flushLines_no_fault
  | flushAll => exact flushLines_no_fault (start := 0) (stop := 96)
  | writeText =>
    simp [exec, execWriteText, whenIdle_eq_fault, andThen_eq_fault, renderText_no_fault]
  | writeRegion =>
    simp only [exec, execWriteRegion, ne_eq, whenIdle_eq_fault]
    split <;> simp
  | ovClock =>
    simp only [exec, execOvClock, ne_eq, whenIdle_eq_fault]
    split <;> simp [andThen_eq_fault, renderAt_no_fault]
  | ovBattery =>
    simp only [exec, execOvBattery, ne_eq, whenIdle_eq_fault]
    split
    · split <;> simp [andThen_eq_fault, renderAt_no_fault]
    · simp
  | ovConnection => simp [exec, execOvConnection, whenIdle_eq_fault, drawIndicator_no_fault]
  | ovSampling => simp [exec, execOvSampling, whenIdle_eq_fault, drawIndicator_no_fault]
  | ovFix =>
    simp only [exec, execOvFix, ne_eq, whenIdle_eq_fault]
    split
    · simp [drawFix_no_fault]
    · split <;> simp [drawFix_no_fault]
  | clearScreen => simp [exec, execClearScreen, whenIdle_eq_fault, andThen_eq_fault, transferAsync_no_fault]
  | flushLine =>
    simp only [exec, execFlushLine, ne_eq, whenIdle_eq_fault]
    split <;> simp [andThen_eq_fault, transferAsync_no_fault]
  | refreshConfigure =>
    simp only [exec, execRefreshConfigure, ne_eq, whenIdle_eq_fault]
    split <;> simp
  | cmdClear | cmdWriteOneLine | cmdWriteMultipleLines => simpa using not_wire_of_decode decoded

theorem mainFlowStep_no_fault {s : State} {f : Fault} : mainFlowStep s ≠ .fault f := by
  unfold mainFlowStep
  split
  · next decoded => exact exec_no_fault decoded
  · simp

/-- Under the invariant the bus engine finds its byte (R39, log 15). -/
theorem busByte_no_fault {s : State} {f : Fault} (h : inv s = true) (active : s.busActive = true) :
    busByte s ≠ .fault f := by
  obtain ⟨left, inside⟩ := segment_of_inv h active
  simp [busByte, show s.busPtr < s.busSrc.space.size by omega]

/-- Under the invariant no move faults. -/
theorem perform_no_fault {m : Move} {s : State} {f : Fault} (h : inv s = true) : perform m s ≠ .fault f := by
  unfold perform
  split
  · next can =>
    split
    · exact mainFlowStep_no_fault
    · cases m with
      | busByte => exact busByte_no_fault h can
      | _ => simp [agentStep]
  · simp

/-- Settles O12: whichever move the environment chooses. -/
theorem noFaultUnderInvariant : Obligations.NoFaultUnderInvariant :=
  fun s _ h => perform_no_fault ((inv_consumeMove s).trans h)

/-! ### The invariants of R47 and the phase of R26 -/

/-- A sampler that is not quiet belongs to SAMPLE (R47(e)). -/
theorem inSample_of_inv {s : State} (h : inv s = true) (live : samplerQuiet s = false) : s.mf.op = some "SAMPLE" := by
  by_contra outside
  simp [samplerQuiet_of_inv h outside] at live

/-- A request in flight has the converter on and belongs to SAMPLE (R47(b)). -/
theorem enabled_of_busy {s : State} (h : samplerInv s = true) (busy : s.busy = true) : s.adcEnable = true := by
  cases mf : s.mf with
  | sample position => cases position <;> simp_all [samplerInv, samplerQuiet, samplerInFlight]
  | idle | flushRange | waitIdle => simp_all [samplerInv, samplerQuiet]

theorem pastArming_iff (mf : MainFlow) : mf.pastArming = true ↔ mf.op = some "SAMPLE" ∧ 4 ≤ mf.step := by
  cases mf with
  | sample position => cases position <;> simp [MainFlow.pastArming, MainFlow.op, MainFlow.step]
  | _ => simp [MainFlow.pastArming, MainFlow.op]

/-- The phase is what the position, from step 4 of SAMPLE on, and the flags say (R26). -/
theorem phase_eq (s : State) : s.phase = if s.mf.op = some "SAMPLE" ∧ 4 ≤ s.mf.step then
    if s.timedOut then .timedOut else if s.busy then .converting else .completed else .idle := by
  simp only [State.phase, pastArming_iff]

theorem phase_idle_of_outside {s : State} (outside : s.mf.op ≠ some "SAMPLE") : s.phase = .idle := by
  simp [phase_eq, outside]

/-- `CS` is asserted while a segment is active (R47(f)). -/
theorem cs_of_active {s : State} (h : inv s = true) (active : s.busActive = true) : s.cs = true := by
  have bus := (inv_iff_parts.mp h).bus
  unfold busInv at bus
  cases mf : s.mf with
  | flushRange position => cases position <;> simp_all
  | idle | sample | waitIdle => simp_all

/-- The operation in `CW` is SAMPLE while the main flow is in it (R23, R281). -/
theorem holds_sample_of_inv {s : State} (h : inv s = true) (inside : s.mf.op = some "SAMPLE") :
    decode s.cw = .ok .sample := by
  have command := (inv_iff_parts.mp h).command
  cases mf : s.mf with
  | sample =>
    simp only [commandInv, mf, holdsCommand, Bool.and_eq_true] at command
    split at command <;> simp_all
  | idle | flushRange | waitIdle => simp [mf, MainFlow.op] at inside

/-- No operation writes the command word (R21). -/
theorem exec_cw {i : Instr} {s t : State} (h : exec i s = .next t) : t.cw = s.cw := by
  rcases exec_changes h with draws | transfers | ⟨-, sample⟩ | ⟨-, configure⟩
  · rw [draws]
  · rw [transfers]
  · rw [execSample_samplesOnly sample]
  · have body := (whenIdle_eq_next.mp configure).2
    split at body <;> cases body
    rfl

/-- R26's transitions: the move, the phases before and after, and where the main flow stands. -/
def PhaseMoves (m : Move) (s t : State) : Prop :=
  s.phase = .idle ∧ t.phase = .converting ∧ m = .mainFlow ∧ s.mf = .sample .arm ∨
  s.phase = .converting ∧ t.phase = .completed ∧ m = .hAdc ∨
  s.phase = .converting ∧ t.phase = .timedOut ∧ m = .toFire ∨
  (s.phase = .completed ∨ s.phase = .timedOut) ∧ t.phase = .idle ∧ m = .mainFlow ∧ s.mf = .sample .leave

/-- SAMPLE changes the phase where it arms the timeout and where it leaves (R131, R133). -/
theorem execSample_phase {s t : State} (sampler : samplerInv s = true) (run : execSample s = .next t) :
    t.phase ≠ s.phase → PhaseMoves .mainFlow s t := by
  rcases execSample_eq_next.mp run with
    ⟨mf, -, -, rfl⟩ | ⟨mf, rfl⟩ | ⟨mf, rfl⟩ | ⟨mf, rfl⟩ | ⟨mf, rfl⟩ | ⟨mf, rfl⟩
  · simp [State.phase, mf, MainFlow.pastArming]
  · simp [State.phase, mf, MainFlow.pastArming]
  · have notFired : s.timedOut = false := by simp_all [samplerInv]
    simp [PhaseMoves, State.phase, mf, MainFlow.pastArming, notFired]
  · simp [State.phase, mf, MainFlow.pastArming]
  · have same : (s.standAt (.sample .leave)).phase = s.phase := by
      rw [State.phase, State.phase, mf]
      rfl
    split <;> simp [same]
  · have passed : waitOver s = true := by simp_all [samplerInv]
    cases fired : s.timedOut <;> simp_all [PhaseMoves, State.phase, MainFlow.pastArming, waitOver]

/-- The main flow changes the phase in SAMPLE only, since the word of another operation keeps it outside. -/
theorem mainFlowStep_phase {s t : State} (h : inv s = true) (free : s.mainFlowFree = true)
    (run : mainFlowStep s = .next t) : t.phase ≠ s.phase → PhaseMoves .mainFlow s t := by
  have h' : inv t = true := inv_iff_parts.mpr ((inv_iff_parts.mp h).mainFlowStep free run)
  unfold mainFlowStep at run
  split at run
  · next i holds =>
    by_cases sample : i = .sample
    · subst sample
      exact execSample_phase (s := s.takeCommand) (inv_iff_parts.mp h).sampler run
    · have outside : s.mf.op ≠ some "SAMPLE" := fun inside =>
        sample (Except.ok.inj (holds.symm.trans (holds_sample_of_inv h inside)))
      have outside' : t.mf.op ≠ some "SAMPLE" := fun inside => by
        have holds' := holds_sample_of_inv h' inside
        rw [exec_cw run] at holds'
        exact sample (Except.ok.inj (holds.symm.trans holds'))
      simp [phase_idle_of_outside outside, phase_idle_of_outside outside']
  · cases run

/-- Of the other agents only the sampler's two handlers change the phase (R135, R137). -/
theorem agentStep_phase {m : Move} {s t : State} (sampler : samplerInv s = true) (can : enabled s m = true)
    (run : agentStep s m = .next t) : t.phase ≠ s.phase → PhaseMoves m s t := by
  cases m with
  | hAdc =>
    cases run
    obtain ⟨-, -, busy⟩ := request_of_conversion sampler (.inr can)
    cases position : s.mf.pastArming <;> cases fired : s.timedOut <;>
      simp [PhaseMoves, State.phase, takeInterrupt, position, fired, busy]
  | toFire =>
    cases run
    obtain ⟨mf | mf | mf, busy, notFired⟩ := request_of_armed sampler can <;>
      simp [PhaseMoves, State.phase, takeInterrupt, MainFlow.pastArming, mf, busy, notFired]
  | busByte =>
    obtain ⟨-, rfl⟩ := busByte_eq_next.mp run
    exact fun changed => absurd rfl changed
  | _ =>
    cases run
    exact fun changed => absurd rfl changed

/-- The phase changes by R26's transitions only. -/
theorem perform_phase {m : Move} {s t : State} (h : inv s = true) (run : perform m s = .next t) :
    t.phase ≠ s.phase → PhaseMoves m s t := by
  rcases perform_cases run with ⟨can, rfl, main⟩ | ⟨can, -, agent⟩ | ⟨-, rfl⟩
  · have free : s.mainFlowFree = true := by simp_all [enabled, mainFlowEnabled]
    exact mainFlowStep_phase h free main
  · exact agentStep_phase (inv_iff_parts.mp h).sampler can agent
  · exact fun changed => absurd rfl changed

/-- Settles O13: each invariant of R47 is read off its part, and the phase off the position and the flags. -/
theorem stateInvariantsOfSpec : Obligations.StateInvariantsOfSpec := by
  intro s h
  have parts := inv_iff_parts.mp h
  refine ⟨fun busy => ⟨inSample_of_inv h (by simp [samplerQuiet, busy]), enabled_of_busy parts.sampler busy⟩,
    fun converting => (request_of_conversion parts.sampler (.inl converting)).2.2,
    fun armed => inSample_of_inv h (by simp [samplerQuiet, armed]), fun outside => ?quiet, cs_of_active h,
    (refreshInv_iff.mp parts.refresh).2.1, phase_eq s, fun m t run => perform_phase h run⟩
  case quiet => simpa [samplerQuiet, and_assoc] using samplerQuiet_of_inv h outside

end Sys2Proof.Machine
end

section
/-! SUPPORT. The step and who takes it (R23, R94, R264 to R266), and the statements about it. -/

namespace Sys2Proof.Machine

/-- Whether a move's agent has its step does not depend on the environment's choices (log 2). -/
theorem enabled_consumeMove (s : State) (m : Move) : enabled s.consumeMove m = enabled s m := by
  unfold State.consumeMove
  split <;> rfl

/-- The main flow's move, where it has a step. -/
theorem perform_mainFlow {s : State} (can : mainFlowEnabled s = true) : perform .mainFlow s = mainFlowStep s := by
  simp [perform, enabled, can]

/-- The main flow's step is the operation its word decodes to (R97). -/
theorem mainFlowStep_of_decode {s : State} {i : Instr} (holds : decode s.cw = .ok i) :
    mainFlowStep s = exec i s.takeCommand := by
  simp [mainFlowStep, holds]

/-- A move without a step leaves the state (log 2). -/
theorem perform_disabled {m : Move} {s : State} (cannot : enabled s m = false) : perform m s = .next s := by
  simp [perform, cannot]

/-- Settles O5: the chosen move is the main flow's, and its step is the decoded operation's. -/
theorem stepRunsDecodedCommand : Obligations.StepRunsDecodedCommand := by
  intro s i chosen can holds
  have can' : mainFlowEnabled s.consumeMove = true := (enabled_consumeMove s .mainFlow).trans can
  rw [step, chosen, perform_mainFlow can', mainFlowStep_of_decode (by simpa using holds)]

/-- Settles O6: the written word is taken, and decoding it fails. -/
theorem reservedWordRefused : Obligations.ReservedWordRefused := by
  intro s why atRest written free reserved
  have can : mainFlowEnabled s = true := by simp [mainFlowEnabled, free, mainFlowGuard, atRest, written]
  rw [perform_mainFlow can, mainFlowStep, reserved]

/-- An armed timeout can expire at once (R264, R266(a)). -/
theorem perform_toFire {s : State} (armed : s.toArmed = true) :
    perform .toFire s = .next (takeInterrupt s .timeoutExpiry) := by
  simp [perform, enabled, irqPending, armed, agentStep]

/-- A pending compare interrupt is taken at once by its handler (R246, R264). -/
theorem perform_hCmp {s : State} (pending : s.irqCmp = true) :
    perform .hCmp s = .next (takeInterrupt s .compareMatch) := by
  simp [perform, enabled, irqPending, pending, agentStep]

/-- Settles O7: a pending interrupt or a false guard leaves the main flow without a step, and each handler is enabled
by its pending bit alone. -/
theorem interruptsHoldMainFlow : Obligations.InterruptsHoldMainFlow := by
  intro s
  refine ⟨fun pending => perform_disabled ?_, fun guard => perform_disabled ?_, perform_hAdc, perform_hCmp,
    perform_toFire, fun q => ?_⟩
  · rcases pending with adc | cmp
    · simp [enabled, mainFlowEnabled, State.mainFlowFree, adc]
    · simp [enabled, mainFlowEnabled, State.mainFlowFree, cmp]
  · simp [enabled, mainFlowEnabled, guard]
  · cases q <;> rfl

/-! ### Wire commands -/

/-- A wire command is the sending of its byte (R94, log 9). -/
theorem exec_wireCommand {s : State} {i : Instr} {b : Byte} (byte : encodeWire s.cfg i = some b) :
    exec i s = sendCommand b s := by
  cases i <;> cases byte <;> rfl

/-- Settles O8: the byte at the start of SCRATCH stands staged, so the command sends it by the bus engine's step. -/
theorem busEngineRunsWireCommand : Obligations.BusEngineRunsWireCommand := by
  intro s i atByte decoded
  have active : s.busActive = true := by simp_all [State.atCommandByte]
  have staged : commandStaged (s.load .scratch 0) s = true := by simpa [commandStaged, State.atCommandByte] using atByte
  rw [exec_wireCommand (encodeWire_of_decodeWire decoded), sendCommand, if_pos staged]
  simp [perform, enabled, active, agentStep]

/-- Settles O57: a staged byte is the one the bus engine reads, in the middle of its segment or last. -/
theorem wireCommandsSend : Obligations.WireCommandsSend := by
  intro s i b byte
  rw [exec_wireCommand byte]
  refine ⟨fun staged more => ?_, fun staged last mode => ?_, fun staged last mode => ?_, fun unstaged => ?_⟩
  case refine_4 => simp [sendCommand, unstaged]
  all_goals
    rw [sendCommand, if_pos staged]
    simp only [commandStaged, Bool.and_eq_true, decide_eq_true_eq, beq_iff_eq] at staged
    obtain ⟨⟨⟨active, source⟩, start⟩, first⟩ := staged
    have inside : s.busPtr < s.busSrc.space.size := by simp [source, start, BusSource.space, Space.size]
    have read : s.load s.busSrc.space s.busPtr = b := by rw [source, start]; exact first
  · rw [busByte_middle inside more, read, start]
  · rw [busByte_last_manual inside last mode, read, start]
  · rw [busByte_last_auto inside last mode, read, start]

end Sys2Proof.Machine
end

section
/-! SUPPORT. SAMPLE and its agents, step by step and over whole calls (R130 to R143), and the statements about them. -/

namespace Sys2Proof.Machine

/-- Settles O19: from each position the step of that position. -/
theorem sampleStartSequence : Obligations.SampleStartSequence := by
  intro s
  refine ⟨fun mf timeout free => execSample_eq_next.mpr ?_, fun mf => execSample_eq_next.mpr ?_,
    fun mf => execSample_eq_next.mpr ?_, fun mf => execSample_eq_next.mpr ?_, by decide⟩
  · exact .inl ⟨mf, timeout, free, rfl⟩
  · exact .inr (.inl ⟨mf, rfl⟩)
  · exact .inr (.inr (.inl ⟨mf, rfl⟩))
  · exact .inr (.inr (.inr (.inl ⟨mf, rfl⟩)))

/-- SAMPLE at its wait (R132). -/
theorem exec_sample_wait {s : State} (waits : s.mf = .sample .wait) :
    exec .sample s = .next (if waitOver s then s.standAt (.sample .leave) else s) :=
  execSample_eq_next.mpr (.inr (.inr (.inr (.inr (.inl ⟨waits, rfl⟩)))))

theorem waitOver_iff {s : State} : waitOver s = true ↔ s.busy = false ∨ s.timedOut = true := by
  simp [waitOver]

theorem waitOver_eq_false_iff {s : State} : waitOver s = false ↔ s.busy = true ∧ s.timedOut = false := by
  simp [waitOver]

/-- Settles O21: the exit by the flag, and with the converter off no conversion completes. -/
theorem sampleExits : Obligations.SampleExits := by
  intro s leaves
  rw [exec_sample_leave leaves]
  refine ⟨fun fired => ?_, fun notFired => ?_, fun t v left => ?_⟩
  · simp [State.leaveSample, fired, State.leaveTimedOut, State.cancelTimeout, State.powerDownSampler]
  · simp [State.leaveSample, notFired, State.leaveWithSample, State.powerDownSampler]
  · cases left
    simp [enabled]

/-- Settles O23: from idle the timeout is tested before `busy`. -/
theorem sampleRefusals : Obligations.SampleRefusals := by
  intro s atRest
  refine ⟨fun noTimeout => ?_, fun timeout busy => ?_⟩
  · simp only [exec, execSample, atRest, if_pos noTimeout]
  · simp only [exec, execSample, atRest, if_neg timeout, busy, if_true]

/-- Settles O26: the expiry's body, and that the completion handler leaves nothing armed. -/
theorem timeoutExpiry : Obligations.TimeoutExpiry := by
  refine ⟨fun s armed => perform_toFire armed, fun s t handled pending => ?_⟩
  rw [perform_hAdc pending] at handled
  cases handled
  rfl

/-- A conversion in flight with the converter on may complete (R134). -/
theorem perform_adcComplete {s : State} (on : s.adcEnable = true) (converting : s.adcConv = true) (v : Byte) :
    perform (.adcComplete v) s = .next (adcComplete v s) := by
  simp [perform, enabled, on, converting, agentStep]

/-- Settles O27: the move's body where it is enabled. -/
theorem conversionCompletes : Obligations.ConversionCompletes := by
  refine fun s v => ⟨fun on converting => perform_adcComplete on converting v, fun absent => perform_disabled ?_⟩
  rcases absent with off | notConverting
  · simp [enabled, off]
  · simp [enabled, notConverting]

/-! ### Whole calls -/

/-- SAMPLE at its wait in a call that began in `s`, with nothing having happened since the conversion started (R131). -/
def State.sampling (s : State) : State :=
  { s with
    cwWritten := false, adcConfig := .sampleSetup, adcEnable := true, busy := true, toArmed := true,
    toTicks := s.argw, adcConv := true, mf := .sample .wait }

/-- A command that has been taken is not there to be taken again (log 1). -/
theorem State.takeCommand_of_taken {s : State} (taken : s.cwWritten = false) : s.takeCommand = s := by
  rw [State.takeCommand, ← taken]

/-- The main flow's move in SAMPLE, with no interrupt pending (R266). -/
theorem runMoves_sample {s t u : State} {ms : List Move} (holds : decode s.cw = .ok .sample)
    (free : s.mainFlowFree = true) (guard : mainFlowGuard s = true) (first : execSample s.takeCommand = .next t)
    (rest : runMoves ms t = .next u) : runMoves (.mainFlow :: ms) s = .next u := by
  have can : mainFlowEnabled s = true := by simp [mainFlowEnabled, free, guard]
  rw [runMoves_cons (((perform_mainFlow can).trans (mainFlowStep_of_decode holds)).trans first), rest]

section
variable {s : State} (holds : decode s.cw = .ok .sample)
include holds

/-- The main flow's first four moves bring a SAMPLE to its wait (R131). -/
theorem runMoves_sample_start (atRest : s.mf = .idle) (quiet : samplerQuiet s = true) (noCompare : s.irqCmp = false)
    (written : s.cwWritten = true) (timeout : s.argw ≠ 0) :
    runMoves [.mainFlow, .mainFlow, .mainFlow, .mainFlow] s = .next s.sampling := by
  have notBusy : s.busy = false := by simp_all [samplerQuiet]
  have free : s.mainFlowFree = true := by simp_all [samplerQuiet, State.mainFlowFree]
  have guard : mainFlowGuard s = true := by simp [mainFlowGuard, atRest, written]
  refine runMoves_sample holds free guard (execSample_eq_next.mpr (.inl ⟨atRest, timeout, notBusy, rfl⟩)) ?_
  refine runMoves_sample holds free rfl (execSample_eq_next.mpr (.inr (.inl ⟨rfl, rfl⟩))) ?_
  refine runMoves_sample holds free rfl (execSample_eq_next.mpr (.inr (.inr (.inl ⟨rfl, rfl⟩)))) ?_
  exact runMoves_sample holds free rfl (execSample_eq_next.mpr (.inr (.inr (.inr (.inl ⟨rfl, rfl⟩))))) rfl

/-- The main flow's last two moves: the wait that is over, and the exit (R132, R133). -/
theorem runMoves_sample_exit (waits : s.mf = .sample .wait) (taken : s.cwWritten = false) (free : s.mainFlowFree = true)
    (passed : waitOver s = true) :
    runMoves [.mainFlow, .mainFlow] s = .next (s.standAt (.sample .leave)).leaveSample := by
  have guard : mainFlowGuard s = true := by simp [mainFlowGuard, waits, passed]
  have wait : execSample s.takeCommand = .next (s.standAt (.sample .leave)) := by
    rw [State.takeCommand_of_taken taken]
    exact (exec_sample_wait waits).trans (by rw [if_pos passed])
  have leave : execSample (s.standAt (.sample .leave)).takeCommand =
      .next (s.standAt (.sample .leave)).leaveSample := by
    rw [State.takeCommand_of_taken (s := s.standAt (.sample .leave)) taken]
    exact exec_sample_leave (s := s.standAt (.sample .leave)) rfl
  exact runMoves_sample holds free guard wait (runMoves_sample holds free rfl leave rfl)

end

/-- Both exits clear `busy` (R133). -/
@[simp] theorem State.leaveSample_busy (s : State) : s.leaveSample.busy = false := by
  unfold State.leaveSample
  split <;> rfl

/-- Neither exit writes `DEST`. -/
@[simp] theorem State.leaveSample_dest (s : State) : s.leaveSample.dest = s.dest := by
  unfold State.leaveSample
  split <;> rfl

/-- The exit answers the sample in `DEST`, or the timeout if the flag is set (R103, R133, D5). -/
theorem State.leaveSample_outcome (s : State) :
    s.leaveSample.sampleOutcome = if s.timedOut then .timedOut else .ok s.dest := by
  unfold State.leaveSample
  split <;> simp [*, State.sampleOutcome, State.leaveTimedOut, State.leaveWithSample]

/-- The timeout path leaves the value (R261). -/
theorem State.leaveSample_resValue (s : State) :
    s.leaveSample.resValue = if s.timedOut then s.resValue else s.dest := by
  unfold State.leaveSample
  split <;> simp [*, State.leaveTimedOut, State.leaveWithSample]

/-- With nothing armed the exit cancels nothing (R136). -/
theorem State.leaveSample_cancels {s : State} (unarmed : s.toArmed = false) : s.leaveSample.cancels = s.cancels := by
  unfold State.leaveSample
  split <;> simp [State.leaveTimedOut, State.leaveWithSample, unarmed]

/-- SAMPLE stands at its wait with the wait over, no interrupt pending and no timeout armed. -/
structure WaitPassed (w : State) : Prop where
  waits : w.mf = .sample .wait
  holds : decode w.cw = .ok .sample
  taken : w.cwWritten = false
  free : w.mainFlowFree = true
  passed : waitOver w = true
  unarmed : w.toArmed = false

/-- The moves of a whole call: four of the main flow to the wait, what the agents do there, two to leave. -/
def callMoves (ms : List Move) : List Move :=
  [.mainFlow, .mainFlow, .mainFlow, .mainFlow] ++ (ms ++ [.mainFlow, .mainFlow])

/-- A whole call: the four moves to the wait, what the agents do there, and the two moves that leave. What it returns
is decided by the flag and `DEST` at the wait's end. -/
theorem sampleCall {s w : State} (ms : List Move)
    (start : runMoves [.mainFlow, .mainFlow, .mainFlow, .mainFlow] s = .next s.sampling)
    (meanwhile : runMoves ms s.sampling = .next w) (ready : WaitPassed w) :
    ∃ t : State, runMoves (callMoves ms) s = .next t ∧
      t.mf = .idle ∧ t.sampleOutcome = (if w.timedOut then .timedOut else .ok w.dest) ∧ t.dest = w.dest ∧
      t.resValue = (if w.timedOut then w.resValue else w.dest) ∧ t.cancels = w.cancels ∧ t.busy = false ∧
      t.adcEnable = false := by
  obtain ⟨waits, holds, taken, free, passed, unarmed⟩ := ready
  refine ⟨(w.standAt (.sample .leave)).leaveSample, ?_, by simp, State.leaveSample_outcome _, by simp [State.standAt],
    State.leaveSample_resValue _, State.leaveSample_cancels unarmed, by simp, by simp⟩
  rw [callMoves, runMoves_append, start, andThen_next, runMoves_append, meanwhile, andThen_next,
    runMoves_sample_exit holds waits taken free passed]

/-- Settles O28: in each order the wait is over once the agents have moved, and the exit goes by `timed_out`. -/
theorem sampleCallOutcomes : Obligations.SampleCallOutcomes := by
  intro s v atRest quiet noCompare written holds timeout
  have start := runMoves_sample_start holds atRest quiet noCompare written timeout
  have notFired : s.timedOut = false := by simp_all [samplerQuiet]
  have free : s.sampling.mainFlowFree = true := by simp_all [samplerQuiet, State.mainFlowFree, State.sampling]
  have noCompare : s.sampling.irqCmp = false := noCompare
  refine ⟨?completion, ?timeout, ?timeoutFirst, ?completionLatched⟩
  case completion =>
    obtain ⟨t, run, mf, outcome, dest, -, cancels, busy, off⟩ := sampleCall [.adcComplete v, .hAdc] start
      ((runMoves_cons (perform_adcComplete rfl rfl v) _).trans (runMoves_cons (perform_hAdc rfl) _))
      ⟨rfl, holds, rfl, by simp [State.mainFlowFree, takeInterrupt, adcComplete, noCompare], rfl, rfl⟩
    exact ⟨t, run, mf, outcome.trans (if_neg (by simp [takeInterrupt, adcComplete, State.sampling, notFired])), dest,
      cancels, busy, off⟩
  case timeout =>
    obtain ⟨t, run, mf, outcome, dest, value, cancels, busy, off⟩ := sampleCall [.toFire] start
      (runMoves_cons (perform_toFire rfl) _) ⟨rfl, holds, rfl, free, by simp [waitOver, takeInterrupt], rfl⟩
    exact ⟨t, run, mf, outcome, dest, value, cancels, busy, off⟩
  case timeoutFirst =>
    obtain ⟨t, run, mf, outcome, dest, -, -, busy, off⟩ := sampleCall [.toFire, .adcComplete v, .hAdc] start
      ((runMoves_cons (perform_toFire rfl) _).trans ((runMoves_cons (perform_adcComplete rfl rfl v) _).trans
        (runMoves_cons (perform_hAdc rfl) _)))
      ⟨rfl, holds, rfl, by simp [State.mainFlowFree, takeInterrupt, adcComplete, noCompare], rfl, rfl⟩
    exact ⟨t, run, mf, outcome, dest, busy, off⟩
  case completionLatched =>
    obtain ⟨t, run, mf, outcome, dest, -, -, busy, off⟩ := sampleCall [.adcComplete v, .toFire, .hAdc] start
      ((runMoves_cons (perform_adcComplete rfl rfl v) _).trans ((runMoves_cons (perform_toFire rfl) _).trans
        (runMoves_cons (perform_hAdc rfl) _)))
      ⟨rfl, holds, rfl, by simp [State.mainFlowFree, takeInterrupt, adcComplete, noCompare], rfl, rfl⟩
    exact ⟨t, run, mf, outcome, dest, busy, off⟩

end Sys2Proof.Machine
end

section
/-! SUPPORT. Stores over stores, regions as bytes and as pixels (R64, R65, R173, R175), and the statements about the
renderer. -/

namespace Sys2Proof.Machine

/-! ### Stores over stores -/

/-- An address the stores name reads alike after them, whatever the memory was. -/
theorem Memory.read_writeAll_named {sp : Space} {m m' : Memory} {cells : List Host.Cell} {x : Nat}
    (canonical : Memory.wf sp m = true) (canonical' : Memory.wf sp m' = true) (inside : ∀ c ∈ cells, c.1 < sp.size)
    (named : ∃ c ∈ cells, c.1 = x) :
    Memory.read sp (Memory.writeAll sp m cells) x = Memory.read sp (Memory.writeAll sp m' cells) x := by
  induction cells generalizing m m' with
  | nil => simp at named
  | cons c cells ih =>
    have first := Memory.wf_write c.2 canonical (inside c (by simp))
    have first' := Memory.wf_write c.2 canonical' (inside c (by simp))
    have rest : ∀ d ∈ cells, d.1 < sp.size := fun d hd => inside d (List.mem_cons_of_mem _ hd)
    by_cases again : ∃ d ∈ cells, d.1 = x
    · exact ih first first' rest again
    · have last : x = c.1 := by
        obtain ⟨d, hd, rfl⟩ := named
        rcases List.mem_cons.mp hd with rfl | hd
        · rfl
        · exact absurd ⟨d, hd, rfl⟩ again
      have untouched : ∀ d ∈ cells, d.1 ≠ x := fun d hd e => again ⟨d, hd, e⟩
      refine (Memory.read_writeAll_other first rest untouched).trans
        (Eq.trans ?_ (Memory.read_writeAll_other first' rest untouched).symm)
      rw [Memory.read_write canonical, Memory.read_write canonical', if_pos last, if_pos last]

/-- Under stores that name their addresses too, earlier stores make no difference (R175). -/
theorem Memory.writeAll_writeAll {sp : Space} {m : Memory} {cells cells' : List Host.Cell}
    (canonical : Memory.wf sp m = true) (inside : ∀ c ∈ cells, c.1 < sp.size) (inside' : ∀ c ∈ cells', c.1 < sp.size)
    (covered : ∀ c ∈ cells, ∃ c' ∈ cells', c'.1 = c.1) :
    Memory.writeAll sp (Memory.writeAll sp m cells) cells' = Memory.writeAll sp m cells' := by
  have once := Memory.wf_writeAll canonical inside
  refine Memory.eq_of_read (Memory.wf_writeAll once inside') (Memory.wf_writeAll canonical inside') fun x => ?_
  by_cases named : ∃ c' ∈ cells', c'.1 = x
  · exact Memory.read_writeAll_named once canonical inside' named
  · have untouched : ∀ c ∈ cells, c.1 ≠ x := by
      rintro c hc rfl
      exact named (covered c hc)
    have untouched' : ∀ c' ∈ cells', c'.1 ≠ x := fun c' hc' e => named ⟨c', hc', e⟩
    rw [Memory.read_writeAll_other once inside' untouched', Memory.read_writeAll_other canonical inside untouched,
      Memory.read_writeAll_other canonical inside' untouched']

/-- An operation that stores over what it has stored before leaves the same state (R175). -/
theorem State.storeFb_storeFb_finish {s : State} {cells cells' : List Host.Cell} (canonical : Memory.wf .fb s.fb = true)
    (inside : ∀ c ∈ cells, c.1 < Space.fb.size) (inside' : ∀ c ∈ cells', c.1 < Space.fb.size)
    (covered : ∀ c ∈ cells, ∃ c' ∈ cells', c'.1 = c.1) :
    ((s.storeFb cells).finish.storeFb cells').finish = (s.storeFb cells').finish := by
  simp only [State.storeFb, State.finish, Memory.writeAll_writeAll canonical inside inside' covered]

/-- WRITE_TEXT is the stores of its text and the end of the operation (R171). -/
theorem exec_writeText_eq_next {line col : Byte} {inverted : Bool} {s t : State} :
    exec (.writeText line col inverted) s = .next t ↔
      s.mf = .idle ∧ textFits s.payload.length line.toNat col.toNat = true ∧
        ∃ cells, textCells s.cfg inverted line.toNat (1 + col.toNat) s.payload = some cells ∧
          t = (s.storeFb cells).finish := by
  simp only [exec, execWriteText, whenIdle_eq_next, andThen_eq_next, renderText_eq_next, Host.Outcome.next.injEq]
  constructor
  · rintro ⟨atRest, u, ⟨fits, cells, drawn, rfl⟩, rfl⟩
    exact ⟨atRest, fits, cells, drawn, rfl⟩
  · rintro ⟨atRest, fits, cells, drawn, rfl⟩
    exact ⟨atRest, _, ⟨fits, cells, drawn, rfl⟩, rfl⟩

/-- Two texts of one length at one place name the same addresses (R171). -/
theorem textCells_covered {cfg : Config} {inverted inverted' : Bool} {line col : Nat} {text text' : List Byte}
    {cells cells' : List Host.Cell} (drawn : textCells cfg inverted line (1 + col) text = some cells)
    (drawn' : textCells cfg inverted' line (1 + col) text' = some cells') (length : text.length = text'.length) :
    ∀ c ∈ cells, ∃ c' ∈ cells', c'.1 = c.1 := by
  rintro ⟨a, b⟩ stored
  obtain ⟨i, r, char, row, rfl⟩ := textCells_place drawn stored
  have glyphs : cfg.hasGlyphs text' = true := by rw [← textCells_isSome, drawn', Option.isSome_some]
  rw [length] at char
  obtain ⟨g, glyph⟩ := Option.isSome_iff_exists.mp (List.all_eq_true.mp glyphs _ (List.getElem_mem char))
  refine ⟨(fbAddr (line + r) (1 + col + i), (g.rows inverted')[r]), (textCells_mem drawn').mpr ?_, rfl⟩
  exact ⟨i, text'[i], g, r, List.getElem?_eq_getElem char, glyph, by simp [row], rfl⟩

/-- Two regions of one length at one place name the same addresses (R173). -/
theorem regionCells_covered {line col : Nat} {bytes bytes' : List Byte} (length : bytes.length = bytes'.length) :
    ∀ c ∈ regionCells line col bytes, ∃ c' ∈ regionCells line col bytes', c'.1 = c.1 := by
  rintro ⟨a, b⟩ stored
  obtain ⟨i, rfl, byte⟩ := mem_cellsFrom.mp stored
  have bound : i < bytes'.length := length ▸ (List.getElem?_eq_some_iff.mp byte).1
  exact ⟨(_, bytes'[i]), mem_cellsFrom.mpr ⟨i, rfl, List.getElem?_eq_getElem bound⟩, rfl⟩

theorem regionCells_inside {line col : Nat} {bytes : List Byte} (fits : regionFits bytes.length line col = true) :
    ∀ c ∈ regionCells line col bytes, c.1 < Space.fb.size :=
  inside_of_bitmap (regionCells_bitmap fits)

/-- Settles O31: the second stores name the addresses of the first. -/
theorem renderingOverwrites : Obligations.RenderingOverwrites := by
  intro s t u v pay line col inverted inverted' canonical
  refine ⟨fun first => ⟨?_, fun second alone => ?_⟩, fun first => ⟨?_, fun second alone => ?_⟩⟩
  · obtain ⟨-, fits, cells, drawn, rfl⟩ := exec_writeText_eq_next.mp first
    have inside := textCells_inside drawn fits
    refine exec_writeText_eq_next.mpr ⟨rfl, fits, cells, drawn, ?_⟩
    exact (State.storeFb_storeFb_finish canonical inside inside fun c hc => ⟨c, hc, rfl⟩).symm
  · obtain ⟨-, fits, cells, drawn, rfl⟩ := exec_writeText_eq_next.mp first
    obtain ⟨-, fits', cells', drawn', rfl⟩ := exec_writeText_eq_next.mp second
    obtain ⟨-, -, cells'', drawn'', rfl⟩ := exec_writeText_eq_next.mp alone
    obtain rfl : cells' = cells'' := Option.some.inj (drawn'.symm.trans drawn'')
    exact Memory.writeAll_writeAll canonical (textCells_inside drawn fits) (textCells_inside drawn' fits')
      (textCells_covered drawn drawn' (by simp))
  · obtain ⟨-, fits, rfl⟩ := exec_writeRegion_eq_next.mp first
    have inside := regionCells_inside (bytes := s.payload) (by simpa using fits)
    refine exec_writeRegion_eq_next.mpr ⟨rfl, fits, ?_⟩
    exact (State.storeFb_storeFb_finish canonical inside inside fun c hc => ⟨c, hc, rfl⟩).symm
  · obtain ⟨-, fits, rfl⟩ := exec_writeRegion_eq_next.mp first
    obtain ⟨-, fits', rfl⟩ := exec_writeRegion_eq_next.mp second
    obtain ⟨-, -, rfl⟩ := exec_writeRegion_eq_next.mp alone
    exact Memory.writeAll_writeAll canonical (regionCells_inside (by simpa using fits))
      (regionCells_inside (by simpa using fits')) (regionCells_covered (by simp))

/-! ### Regions as bytes and as pixels -/

/-- The first `8 * n` numbers are `n` runs of eight. -/
theorem map_range_eight {α : Type} (f : Nat → α) (n : Nat) :
    (List.range (8 * n)).map f = (List.range n).flatMap fun k => (List.range 8).map fun j => f (8 * k + j) := by
  induction n with
  | zero => rfl
  | succ n ih => simp [Nat.mul_succ, List.range_add, List.range_succ (n := n), ih, Function.comp_def]

/-- Pixel column `8 * k + j` is bit `j` of data byte `k` (R65). -/
theorem State.pixel_of_byte (s : State) (p k : Nat) {j : Nat} (hj : j < 8) :
    s.pixel p (8 * k + j) = (s.fbByte p (1 + k)).getLsbD j := by
  rw [State.pixel, show (8 * k + j) / 8 = k by omega, show (8 * k + j) % 8 = j by omega]

/-- The data bytes of a line leave on the wire as its 96 columns in ascending order (R64, R65). -/
theorem wireBits_line (s : State) (p : Nat) :
    wireBits ((s.loadBytes .fb (fbAddr p 1) 12).map .byte) = (List.range 96).map (s.pixel p) := by
  rw [wireBits_bytes, State.loadBytes, List.flatMap_map, show 96 = 8 * 12 from rfl, map_range_eight]
  refine List.flatMap_congr fun k _ => List.map_congr_left fun j hj => ?_
  rw [State.pixel_of_byte s p k (List.mem_range.mp hj), State.fbByte, fbAddr_add]

/-- After the stores of a region that fits, its bytes stand at its place (R173). -/
theorem fbByte_storeFb_region {s : State} {line col i : Nat} {bytes : List Byte} {b : Byte}
    (canonical : Memory.wf .fb s.fb = true) (fits : regionFits bytes.length line col = true)
    (byte : bytes[i]? = some b) :
    (s.storeFb (regionCells line col bytes)).fbByte line (1 + col + i) = b :=
  Memory.read_writeAll_mem canonical (regionCells_inside fits) (nodup_cellsFrom _ _)
    (mem_cellsFrom.mpr ⟨i, (fbAddr_add ..).symm, byte⟩)

/-- The stores of a region that fits leave every other byte of FB (R173). -/
theorem load_storeFb_region_other {s : State} {line col a : Nat} {bytes : List Byte}
    (canonical : Memory.wf .fb s.fb = true) (fits : regionFits bytes.length line col = true)
    (elsewhere : ∀ i, i < bytes.length → a ≠ fbAddr line (1 + col + i)) :
    (s.storeFb (regionCells line col bytes)).load .fb a = s.load .fb a := by
  refine Memory.read_writeAll_other canonical (regionCells_inside fits) ?_
  rintro ⟨x, b⟩ stored rfl
  obtain ⟨i, rfl, byte⟩ := mem_cellsFrom.mp stored
  exact elsewhere i (List.getElem?_eq_some_iff.mp byte).1 (fbAddr_add ..)

/-- Settles O32: the region's bytes are read back, each as eight pixels. -/
theorem writeRegionStoresBytes : Obligations.WriteRegionStoresBytes := by
  intro s line col atRest
  refine ⟨fun canonical fits => ?_, fun outside => ?_⟩
  · have fits' : regionFits s.payload.length line.toNat col.toNat = true := by rwa [State.payload_length]
    refine ⟨_, exec_writeRegion_eq_next.mpr ⟨atRest, fits, rfl⟩, ?_, fun i b byte => ?_, wireBits_line _,
      fun a elsewhere => ?_⟩
    · simp only [State.finish, State.storeFb, atRest]
    · have stored := fbByte_storeFb_region canonical fits' byte
      refine ⟨stored, fun j hj => ?_⟩
      rw [State.pixel_of_byte _ _ _ hj, ← Nat.add_assoc]
      exact congrArg (·.getLsbD j) stored
    · exact load_storeFb_region_other canonical fits' (by simpa using elsewhere)
  · rw [exec, execWriteRegion, whenIdle_idle atRest, if_neg (by simp [outside])]

end Sys2Proof.Machine
end

section
/-! SUPPORT. What each overlay writer draws on a board it fits (R190 to R195), and the statements about them. -/

namespace Sys2Proof.Machine

/-! ### The texts -/

/-- Settles O35: hours, minutes and seconds are the quotients and remainders by 3600 and 60, each below 100. -/
theorem clockTextReadsBack : Obligations.ClockTextReadsBack := by
  intro ts day
  refine ⟨ts / 3600 / 10, ts / 3600 % 10, ts % 3600 / 60 / 10, ts % 3600 / 60 % 10, ts % 60 / 10, ts % 60 % 10,
    ?_, ?_, ?_, ?_, ?_, ?_, rfl, ?_⟩
  all_goals omega

/-- Settles O37: by the number of digits, which decides the padding. -/
theorem batteryTextShape : Obligations.BatteryTextShape := by
  refine ⟨fun d one => ?_, fun t d tens tenth digit => ?_, by decide⟩
  · simp [batteryText, percentDigits, one, List.replicate]
  · have two : ¬ 10 * t + d < 10 := by omega
    have below : 10 * t + d < 100 := by omega
    have quotient : (10 * t + d) / 10 = t := by omega
    have remainder : (10 * t + d) % 10 = d := by omega
    simp [batteryText, percentDigits, two, below, quotient, remainder]

/-! ### Drawing at a place -/

theorem Place.fits_iff {p : Place} {width : Nat} : p.fits width = true ↔ p.line + 7 ≤ 95 ∧ p.col + width ≤ 12 := by
  simp [Place.fits]

/-- A text as wide as a region that fits may be drawn there (R171, R190). -/
theorem textFits_of_fits {p : Place} {text : List Byte} (fits : p.fits text.length = true) (nonempty : text ≠ []) :
    textFits text.length p.line p.col = true := by
  have positive := List.length_pos_iff.mpr nonempty
  rw [Place.fits_iff] at fits
  exact textFits_iff.mpr (by omega)

/-- A text that fits at a place and has glyphs is drawn there, and ends the operation it is the whole of. -/
theorem renderAt_finish_runs {s : State} {text : List Byte} {p : Place} {inverted : Bool} (atRest : s.mf = .idle)
    (fits : p.fits text.length = true) (nonempty : text ≠ []) (glyphs : s.cfg.hasGlyphs text = true) :
    ∃ cells, textCells s.cfg inverted p.line (1 + p.col) text = some cells ∧
      andThen (renderAt text p inverted s) (fun t => .next t.finish) =
        .next { s with fb := Memory.writeAll .fb s.fb cells, resStatus := 0 } := by
  obtain ⟨cells, drawn, runs⟩ := renderText_runs (inv := inverted) (textFits_of_fits fits nonempty) glyphs
  refine ⟨cells, drawn, ?_⟩
  rw [renderAt, runs, andThen_next, State.finish, State.storeFb, ← atRest]

/-- Settles O34: the guard passes below 86400, and the text is drawn. -/
theorem clockOverlayDraws : Obligations.ClockOverlayDraws := by
  intro s atRest
  refine ⟨fun day fits glyphs => ?_, fun past => ?_⟩
  · rw [exec, execOvClock, whenIdle_idle atRest, if_pos day]
    exact renderAt_finish_runs atRest fits (List.cons_ne_nil _ _) glyphs
  · rw [exec, execOvClock, whenIdle_idle atRest, if_neg (by omega)]

/-! ### The battery -/

/-- With the percentage in the cache OV_BATTERY only ends (R192). -/
theorem exec_ovBattery_cached {s : State} {pct : Byte} (atRest : s.mf = .idle) (range : pct.toNat ≤ 100)
    (cached : s.battPrev = some pct.toNat) : exec (.ovBattery pct) s = .next s.finish := by
  rw [exec, execOvBattery, whenIdle_idle atRest, if_pos range, if_pos cached]

/-- The end of an operation ends nothing that a drawing operation has left. -/
theorem DrawsOnly.finish_eq {s t : State} (h : DrawsOnly s t) : t.finish = t := by
  rw [h]
  rfl

/-- Settles O36: drawing and caching, or nothing; afterwards the cache holds the percentage. -/
theorem batteryOverlayDraws : Obligations.BatteryOverlayDraws := by
  intro s pct atRest
  refine ⟨fun range new fits glyphs => ?_, fun range cached => ?_, fun t run => ?_, fun outside => ?_⟩
  · have four : (batteryText pct.toNat).length = 4 := batteryText_length _
    have nonempty : batteryText pct.toNat ≠ [] := List.ne_nil_of_length_pos (by omega)
    obtain ⟨cells, drawn, runs⟩ := renderText_runs (inv := s.cfg.batteryInv)
      (textFits_of_fits (p := s.cfg.battery) (four ▸ fits) nonempty) glyphs
    refine ⟨cells, drawn, ?_⟩
    rw [exec, execOvBattery, whenIdle_idle atRest, if_pos range, if_neg new, renderAt, runs, andThen_next]
    simp only [State.finish, State.storeFb, atRest]
  · rw [exec_ovBattery_cached atRest range cached, State.finish, ← atRest]
  · have changes := execOvBattery_drawsOnly run
    have rest : t.mf = .idle := by rw [changes]
    rw [exec_ovBattery_cached rest (execOvBattery_range run) (execOvBattery_endsDrawing run).battPrev,
      changes.finish_eq]
  · rw [exec, execOvBattery, whenIdle_idle atRest, if_neg (by omega)]

/-! ### The indicators -/

/-- Each of an indicator's two texts may be drawn at its place (R190). -/
theorem Config.indicatorFits_text {cfg : Config} {p : Place} {onText offText : List Byte}
    (h : cfg.indicatorFits p onText offText = true) (on : Byte) :
    p.fits (if on = 1 then onText else offText).length = true ∧ (if on = 1 then onText else offText) ≠ [] ∧
      cfg.hasGlyphs (if on = 1 then onText else offText) = true := by
  simp only [Config.indicatorFits, Bool.and_eq_true, decide_eq_true_eq, beq_iff_eq] at h
  obtain ⟨⟨⟨⟨nonempty, length⟩, fits⟩, onGlyphs⟩, offGlyphs⟩ := h
  split
  · exact ⟨fits, List.ne_nil_of_length_pos (by omega), onGlyphs⟩
  · exact ⟨length ▸ fits, List.ne_nil_of_length_pos (by omega), offGlyphs⟩

/-- An indicator that fits draws one of its texts (R193, R194). -/
theorem drawIndicator_runs {s : State} {on : Byte} {p : Place} {inverted : Bool} {onText offText : List Byte}
    (atRest : s.mf = .idle) (fits : s.cfg.indicatorFits p onText offText = true) (range : on.toNat ≤ 1) :
    ∃ cells, textCells s.cfg inverted p.line (1 + p.col) (if on = 1 then onText else offText) = some cells ∧
      drawIndicator on p inverted onText offText s =
        .next { s with fb := Memory.writeAll .fb s.fb cells, resStatus := 0 } := by
  obtain ⟨place, nonempty, glyphs⟩ := Config.indicatorFits_text fits on
  rw [drawIndicator, if_pos range]
  exact renderAt_finish_runs atRest place nonempty glyphs

theorem drawIndicator_refused {s : State} {on : Byte} {p : Place} {inverted : Bool} {onText offText : List Byte}
    (outside : 1 < on.toNat) : drawIndicator on p inverted onText offText s = .refused .operandRange := by
  rw [drawIndicator, if_neg (by omega)]

/-- On a valid board the overlays fit their places (R190). -/
theorem Config.valid_overlays {cfg : Config} (valid : cfg.valid = true) :
    cfg.indicatorFits cfg.connection cfg.connOnText cfg.connOffText = true ∧
      cfg.indicatorFits cfg.sampling cfg.sampOnText cfg.sampOffText = true ∧
      cfg.latitude.fits 12 = true ∧ cfg.latitudeIndicator.fits 1 = true ∧
      cfg.longitude.fits 12 = true ∧ cfg.longitudeIndicator.fits 1 = true := by
  simp_all [Config.valid]

/-- Settles O38: both indicators are the shared body at their own place. -/
theorem indicatorOverlaysDraw : Obligations.IndicatorOverlaysDraw := by
  intro s on atRest valid
  obtain ⟨connection, sampling, -⟩ := Config.valid_overlays valid
  simp only [exec, execOvConnection, execOvSampling, whenIdle_idle atRest]
  exact ⟨fun range => ⟨drawIndicator_runs atRest connection range, drawIndicator_runs atRest sampling range⟩,
    fun outside => ⟨drawIndicator_refused outside, drawIndicator_refused outside⟩⟩

/-! ### The fix -/

theorem Config.hasGlyphs_iff {cfg : Config} {text : List Byte} :
    cfg.hasGlyphs text = true ↔ ∀ c ∈ text, (cfg.glyphOf c).isSome = true :=
  List.all_eq_true

/-- A text made of bytes that have glyphs has glyphs. -/
theorem Config.hasGlyphs_of_subset {cfg : Config} {text text' : List Byte} (glyphs : cfg.hasGlyphs text' = true)
    (subset : text ⊆ text') : cfg.hasGlyphs text = true :=
  hasGlyphs_iff.mpr fun c hc => hasGlyphs_iff.mp glyphs c (subset hc)

/-- The bytes of a coordinate are the payload's, and the marks between them the placeholder's (R195). -/
theorem coordinateAt_subset (payload : List Byte) (o : Nat) :
    (coordinateAt payload o).text ⊆ payload ++ placeholderText ∧
      (coordinateAt payload o).hemi ⊆ payload ++ placeholderText := by
  have part (m n : Nat) : (payload.drop m).take n ⊆ payload ++ placeholderText := fun _ hc =>
    List.mem_append_left _ (List.mem_of_mem_drop (List.mem_of_mem_take hc))
  have mark {b : Byte} (hb : b ∈ placeholderText) : [b] ⊆ payload ++ placeholderText := by
    simpa using Or.inr hb
  refine ⟨?_, part _ _⟩
  simp only [Coordinate.text, coordinateAt, List.append_subset]
  exact ⟨⟨⟨⟨⟨part _ _, mark (by decide)⟩, part _ _⟩, mark (by decide)⟩, part _ _⟩, mark (by decide)⟩

/-- Stores after stores are the stores of both lists. -/
theorem State.storeFb_storeFb (s : State) (cells cells' : List Host.Cell) :
    (s.storeFb cells).storeFb cells' = s.storeFb (cells ++ cells') := by
  simp [State.storeFb, Memory.writeAll]

/-- What a text stores at a place depends on the board only. -/
theorem renderAt_runs {cfg : Config} {text : List Byte} {p : Place} {width : Nat} (inverted : Bool)
    (fits : p.fits width = true) (length : text.length = width) (positive : 0 < width)
    (glyphs : cfg.hasGlyphs text = true) :
    ∃ cells, textCells cfg inverted p.line (1 + p.col) text = some cells ∧
      ∀ s : State, s.cfg = cfg → renderAt text p inverted s = .next (s.storeFb cells) := by
  subst length
  have fits := textFits_of_fits fits (List.ne_nil_of_length_pos positive)
  rw [← textCells_isSome (inv := inverted) (line := p.line) (k := 1 + p.col)] at glyphs
  obtain ⟨cells, drawn⟩ := Option.isSome_iff_exists.mp glyphs
  exact ⟨cells, drawn, fun s board => renderText_eq_next.mpr ⟨fits, cells, by rw [board, drawn], rfl⟩⟩

/-- The texts OV_FIX draws have the widths of their four places and glyphs (R190, R195). -/
structure FixTexts (cfg : Config) (latText latInd lonText lonInd : List Byte) : Prop where
  latText : latText.length = 12 ∧ cfg.hasGlyphs latText = true
  latInd : latInd.length = 1 ∧ cfg.hasGlyphs latInd = true
  lonText : lonText.length = 12 ∧ cfg.hasGlyphs lonText = true
  lonInd : lonInd.length = 1 ∧ cfg.hasGlyphs lonInd = true

/-- A place as wide as the screen begins at its first column. -/
theorem Place.col_of_fits {p : Place} (fits : p.fits 12 = true) : p.col = 0 := by
  rw [Place.fits_iff] at fits
  omega

/-- On a valid board the four texts are drawn one after another (R195). -/
theorem drawFix_runs {s : State} {latText latInd lonText lonInd : List Byte} (atRest : s.mf = .idle)
    (valid : s.cfg.valid = true) (texts : FixTexts s.cfg latText latInd lonText lonInd) :
    ∃ c1 c2 c3 c4,
      textCells s.cfg s.cfg.fixInv s.cfg.latitude.line 1 latText = some c1 ∧
      textCells s.cfg s.cfg.fixInv s.cfg.latitudeIndicator.line (1 + s.cfg.latitudeIndicator.col) latInd = some c2 ∧
      textCells s.cfg s.cfg.fixInv s.cfg.longitude.line 1 lonText = some c3 ∧
      textCells s.cfg s.cfg.fixInv s.cfg.longitudeIndicator.line (1 + s.cfg.longitudeIndicator.col) lonInd = some c4 ∧
      drawFix latText latInd lonText lonInd s =
        .next { s with fb := Memory.writeAll .fb s.fb (c1 ++ c2 ++ c3 ++ c4), resStatus := 0 } := by
  obtain ⟨-, -, lat, latI, lon, lonI⟩ := Config.valid_overlays valid
  obtain ⟨c1, drawn1, runs1⟩ := renderAt_runs s.cfg.fixInv lat texts.latText.1 (by decide) texts.latText.2
  obtain ⟨c2, drawn2, runs2⟩ := renderAt_runs s.cfg.fixInv latI texts.latInd.1 (by decide) texts.latInd.2
  obtain ⟨c3, drawn3, runs3⟩ := renderAt_runs s.cfg.fixInv lon texts.lonText.1 (by decide) texts.lonText.2
  obtain ⟨c4, drawn4, runs4⟩ := renderAt_runs s.cfg.fixInv lonI texts.lonInd.1 (by decide) texts.lonInd.2
  rw [Place.col_of_fits lat] at drawn1
  rw [Place.col_of_fits lon] at drawn3
  refine ⟨c1, c2, c3, c4, drawn1, drawn2, drawn3, drawn4, ?_⟩
  rw [drawFix, runs1 s rfl, andThen_next, State.storeFb_cfg, runs2 (s.storeFb _) rfl, andThen_next,
    State.storeFb_storeFb, State.storeFb_cfg, runs3 (s.storeFb _) rfl, andThen_next,
    State.storeFb_storeFb, State.storeFb_cfg, runs4 (s.storeFb _) rfl, andThen_next,
    State.storeFb_storeFb, State.finish, State.storeFb, ← atRest]

/-- OV_FIX with no fix, and with a fix record in the payload (R195). -/
theorem exec_ovFix_absent {s : State} (atRest : s.mf = .idle) : exec (.ovFix 0) s =
    drawFix placeholderText placeholderIndicator placeholderText placeholderIndicator s := by
  rw [exec, execOvFix, whenIdle_idle atRest, if_pos rfl]

theorem exec_ovFix_record {s : State} (atRest : s.mf = .idle) (record : s.payLen.val = 20) : exec (.ovFix 1) s =
    drawFix (coordinateAt s.payload 0).text (coordinateAt s.payload 0).hemi (coordinateAt s.payload 10).text
      (coordinateAt s.payload 10).hemi s := by
  rw [exec, execOvFix, whenIdle_idle atRest, if_neg (by decide), if_pos ⟨rfl, record⟩]

theorem exec_ovFix_refused {s : State} {fix : Byte} (atRest : s.mf = .idle) (present : fix ≠ 0)
    (noRecord : ¬ (fix = 1 ∧ s.payLen.val = 20)) : exec (.ovFix fix) s = .refused .operandRange := by
  rw [exec, execOvFix, whenIdle_idle atRest, if_neg present, if_neg noRecord]

theorem exec_ovFix_outside {s : State} {fix : Byte} (atRest : s.mf = .idle) (outside : 1 < fix.toNat) :
    exec (.ovFix fix) s = .refused .operandRange := by
  refine exec_ovFix_refused atRest ?_ ?_
  · rintro rfl
    simp at outside
  · rintro ⟨rfl, -⟩
    simp at outside

theorem fixTexts_placeholder {cfg : Config} (glyphs : cfg.hasGlyphs placeholderText = true) :
    FixTexts cfg placeholderText placeholderIndicator placeholderText placeholderIndicator := by
  have indicator : cfg.hasGlyphs placeholderIndicator = true :=
    Config.hasGlyphs_of_subset glyphs (by decide)
  exact ⟨⟨rfl, glyphs⟩, ⟨rfl, indicator⟩, ⟨rfl, glyphs⟩, ⟨rfl, indicator⟩⟩

theorem fixTexts_record {cfg : Config} {payload : List Byte} (length : payload.length = 20)
    (glyphs : cfg.hasGlyphs (payload ++ placeholderText) = true) :
    FixTexts cfg (coordinateAt payload 0).text (coordinateAt payload 0).hemi (coordinateAt payload 10).text
      (coordinateAt payload 10).hemi := by
  obtain ⟨latText, latInd⟩ := coordinateAt_lengths (payload := payload) (o := 0) (by omega)
  obtain ⟨lonText, lonInd⟩ := coordinateAt_lengths (payload := payload) (o := 10) (by omega)
  have drawable (o : Nat) := coordinateAt_subset payload o
  have has {text : List Byte} := Config.hasGlyphs_of_subset (text := text) glyphs
  exact ⟨⟨latText, has (drawable 0).1⟩, ⟨latInd, has (drawable 0).2⟩,
    ⟨lonText, has (drawable 10).1⟩, ⟨lonInd, has (drawable 10).2⟩⟩

/-- Settles O39: the placeholders, or the two coordinates of the record, in the four places. -/
theorem fixOverlayDraws : Obligations.FixOverlayDraws := by
  intro s atRest valid
  refine ⟨fun glyphs => ?_, fun record glyphs => ?_, fun noRecord => ?_, fun fix outside => ?_⟩
  · rw [exec_ovFix_absent atRest]
    exact drawFix_runs atRest valid (fixTexts_placeholder glyphs)
  · rw [exec_ovFix_record atRest record]
    exact drawFix_runs atRest valid (fixTexts_record (s.payload_length.trans record) glyphs)
  · exact exec_ovFix_refused atRest (by decide) fun h => noRecord h.2
  · exact exec_ovFix_outside atRest outside

end Sys2Proof.Machine
end

section
/-! SUPPORT. The transfer operations' steps with everything they leave, their waits and their refusals (R210 to R219),
and the statements about them. -/

namespace Sys2Proof.Machine

/-- A segment on the state an operation leaves at rest, written out (R210). -/
theorem State.withSegment_eq (s : State) (src : BusSource) (addr n : Nat) (mode : CsMode) :
    s.withSegment src addr n mode = { s with
      wire := if s.cs then s.wire else s.wire ++ [.csAssert], cs := true,
      busSrc := src, busPtr := addr, busRem := n, busMode := mode, busActive := true } := by
  cases h : s.cs <;> simp [State.withSegment, State.assertCs, State.emit, h]

/-- Settles O42: the staged bytes, the end of the operation and the segment, written out. -/
theorem scratchTransfersStart : Obligations.ScratchTransfersStart := by
  intro s i atRest idle
  refine ⟨?_, fun line => ?_⟩
  · rw [exec_clearScreen_idle atRest idle, State.withSegment_eq, State.finish, State.stage, clearBytes, ← atRest]
  · rw [exec_flushLine_idle atRest idle line, State.withSegment_eq, State.finish, State.stage, singleLineBytes,
      ← atRest]

/-- FLUSH_RANGE and FLUSH_ALL are the flush of their lines (R217, R218). -/
theorem exec_flushLines {i : Instr} {start stop : Nat} (range : i = .flushAll ∧ start = 0 ∧ stop = 96 ∨
      ∃ a b : Byte, i = .flushRange a b ∧ start = a.toNat ∧ stop = b.toNat) (s : State) :
    exec i s = flushLines start stop s := by
  obtain ⟨rfl, rfl, rfl⟩ | ⟨a, b, rfl, rfl, rfl⟩ := range
  · rfl
  · rfl

/-- Settles O43: from each position the step of that position. -/
theorem rangeTransferSteps : Obligations.RangeTransferSteps := by
  intro i start stop range ordered inRange s
  have range' : start < stop ∧ stop ≤ 96 := ⟨ordered, inRange⟩
  rw [exec_flushLines range]
  refine ⟨fun atRest idle => ?_, fun waits active => ⟨?_, ?_⟩, fun waits idle => flushLines_wait range' waits idle,
    fun sends idle => ?_⟩
  · rw [flushLines_idle range' atRest idle, State.withSegment_eq]
    rfl
  · exact flushLines_eq_next.mpr ⟨range', .inr (.inl ⟨waits, by rw [active, if_pos rfl]⟩)⟩
  · simp [enabled, mainFlowEnabled, mainFlowGuard, waits, active]
  · rw [flushLines_send range' sends idle, State.withSegment_eq]
    rfl

/-- Settles O48: the position, the wait, and the end on an idle bus, where `CS` is released. -/
theorem waitIdleWaits : Obligations.WaitIdleWaits := by
  refine ⟨by decide, fun s => ⟨fun atRest active => ?_, fun waits active => ⟨?_, ?_⟩, fun position idle => ⟨?_, ?_⟩⟩⟩
  · exact exec_waitIdle_eq_next.mpr ⟨.inl atRest, (if_pos active).symm⟩
  · exact exec_waitIdle_eq_next.mpr ⟨.inr waits, by rw [if_pos active, State.standAt, ← waits]⟩
  · simp [enabled, mainFlowEnabled, mainFlowGuard, waits, active]
  · exact exec_waitIdle_eq_next.mpr ⟨position, by simp [idle, State.finish]⟩
  · intro h
    have bus := (inv_iff_parts.mp h).bus
    rcases position with mf | mf <;> simp_all [busInv]

/-! ### Refusals -/

theorem transferAsync_stage_busy {s : State} (busy : s.busActive = true) (bytes : List Byte) {n : Nat}
    (nonempty : n ≠ 0) (mode : CsMode) : transferAsync .scratch 0 n mode (s.stage bytes) = .refused .busBusy :=
  transferAsync_busy (s := s.stage bytes) busy .scratch 0 nonempty mode

theorem flushLines_outside {start stop : Nat} (outside : ¬ (start < stop ∧ stop ≤ 96)) (s : State) :
    flushLines start stop s = .refused .operandRange := by
  rw [flushLines, if_neg outside]

/-- A flush begun on a busy bus is refused (R217). -/
theorem flushLines_busy {s : State} {start stop : Nat} (range : start < stop ∧ stop ≤ 96) (atRest : s.mf = .idle)
    (busy : s.busActive = true) : flushLines start stop s = .refused .busBusy := by
  simp only [flushLines, if_pos range, atRest]
  rw [transferAsync_stage_busy busy _ Nat.one_ne_zero, andThen_refused]

/-- A flush within another operation is refused (log 14). -/
theorem flushLines_elsewhere {s : State} {start stop : Nat} (range : start < stop ∧ stop ≤ 96)
    (elsewhere : s.mf.op = some "SAMPLE" ∨ s.mf.op = some "WAIT_IDLE") :
    flushLines start stop s = .refused .mainFlowBusy := by
  cases mf : s.mf with
  | sample | waitIdle => simp only [flushLines, if_pos range, mf]
  | idle | flushRange => simp [mf, MainFlow.op] at elsewhere

theorem exec_flushLine_outside {s : State} {i : Byte} (atRest : s.mf = .idle) (outside : 95 < i.toNat) :
    exec (.flushLine i) s = .refused .operandRange := by
  rw [exec, execFlushLine, whenIdle_idle atRest, if_neg (by omega)]

/-- Settles O49: the operands are tested before the bus. -/
theorem transferRefusals : Obligations.TransferRefusals := by
  intro s i a b atRest
  refine ⟨exec_flushLine_outside atRest, fun outside => flushLines_outside (by omega) s,
    fun busy => ⟨?_, flushLines_busy (start := 0) (stop := 96) (by decide) atRest busy, fun line => ?_,
      fun ordered inRange => flushLines_busy ⟨ordered, inRange⟩ atRest busy⟩⟩
  · rw [exec, execClearScreen, whenIdle_idle atRest, transferAsync_stage_busy busy _ (by decide), andThen_refused]
  · rw [exec, execFlushLine, whenIdle_idle atRest, if_pos line, transferAsync_stage_busy busy _ (by decide),
      andThen_refused]

/-- An operation of one step within another operation is refused (R100(b), log 14). -/
theorem exec_oneStep_busy {i : Instr} {s : State} (oneStep : isOneStep i = true) (elsewhere : s.mf ≠ .idle) :
    exec i s = .refused .mainFlowBusy := by
  cases i with
  | writeText | writeRegion | ovClock | ovBattery | ovConnection | ovSampling | ovFix | clearScreen | flushLine
  | refreshConfigure => exact whenIdle_busy elsewhere _
  | _ => cases oneStep

/-- From idle an operation is refused whose fields lie outside the operand columns of the opcode table (R263). -/
theorem exec_illFormed {i : Instr} {s : State} (illFormed : i.wf = false) (atRest : s.mf = .idle) :
    exec i s = .refused .operandRange := by
  cases i with
  | writeText line col =>
    have outside : textFits s.payload.length line.toNat col.toNat = false := by
      rw [← Bool.not_eq_true, textFits_iff]
      simp only [Instr.wf, Bool.and_eq_false_iff, decide_eq_false_iff_not] at illFormed
      omega
    rw [exec_writeText_idle atRest, renderText_refused (.inl outside), andThen_refused]
  | writeRegion line col =>
    have outside : ¬ regionFits s.payLen.val line.toNat col.toNat = true := by
      rw [regionFits_iff]
      simp only [Instr.wf, Bool.and_eq_false_iff, decide_eq_false_iff_not] at illFormed
      omega
    rw [exec, execWriteRegion, whenIdle_idle atRest, if_neg outside]
  | ovBattery pct =>
    rw [exec, execOvBattery, whenIdle_idle atRest, if_neg (by simpa [Instr.wf] using illFormed)]
  | ovConnection on | ovSampling on =>
    rw [exec]
    exact (whenIdle_idle atRest _).trans (drawIndicator_refused (by simpa [Instr.wf] using illFormed))
  | ovFix fix => exact exec_ovFix_outside atRest (by simpa [Instr.wf] using illFormed)
  | flushLine index => exact exec_flushLine_outside atRest (by simpa [Instr.wf] using illFormed)
  | flushRange start stop => exact flushLines_outside (by simpa [Instr.wf] using illFormed) s
  | _ => cases illFormed

/-- Settles O60: ill-formed fields, operations of one step, and the three that stay in the main flow. -/
theorem operationRefusals : Obligations.OperationRefusals := by
  intro i s
  refine ⟨exec_illFormed, exec_oneStep_busy, fun elsewhere => ?_, fun elsewhere => ?_, fun elsewhere =>
    ⟨flushLines_elsewhere (start := 0) (stop := 96) (by decide) elsewhere,
      fun a b ordered inRange => flushLines_elsewhere ⟨ordered, inRange⟩ elsewhere⟩⟩
  · cases mf : s.mf with
    | flushRange | waitIdle => simp only [exec, execSample, mf]
    | idle | sample => simp [mf, MainFlow.op] at elsewhere
  · cases mf : s.mf with
    | sample | flushRange => simp only [exec, execWaitIdle, mf]
    | idle | waitIdle => simp [mf, MainFlow.op] at elsewhere

end Sys2Proof.Machine
end

section
/-! SUPPORT. The parameters (R46, R61) and the refresh chain (R241 to R248): what every move leaves of them, and the
statements about them. -/

namespace Sys2Proof.Machine

/-! ### Parameters -/

theorem exec_cfg {i : Instr} {s t : State} (h : exec i s = .next t) : t.cfg = s.cfg := by
  rcases exec_changes h with draws | transfers | ⟨-, sample⟩ | ⟨-, configure⟩
  · rw [draws]
  · rw [transfers]
  · rw [execSample_samplesOnly sample]
  · exact (execRefreshConfigure_sameSegment configure).1

theorem agentStep_cfg {m : Move} {s t : State} (h : agentStep s m = .next t) : t.cfg = s.cfg := by
  cases m with
  | busByte =>
    obtain ⟨-, rfl⟩ := busByte_eq_next.mp h
    rfl
  | _ =>
    cases h
    rfl

/-- No move writes a parameter (R46, log 3). -/
theorem perform_cfg {m : Move} {s t : State} (h : perform m s = .next t) : t.cfg = s.cfg := by
  rcases perform_cases h with ⟨-, -, main⟩ | ⟨-, -, agent⟩ | ⟨-, rfl⟩
  · unfold mainFlowStep at main
    split at main
    · exact exec_cfg (s := s.takeCommand) main
    · cases main
  · exact agentStep_cfg agent
  · rfl

/-- The eight bytes WRITE_TEXT reads for a text byte with a glyph are its rows (R61, R171). -/
theorem fontBytes_of_glyphOf {cfg : Config} (inverted : Bool) {c : Byte} {g : Glyph} (glyph : cfg.glyphOf c = some g) :
    cfg.fontBytes (fontSpace inverted) (8 * (c.toNat - 32)) 8 = some (g.rows inverted).toList := by
  have bytes := cfg.glyphBytes_eq inverted c
  have printable : 32 ≤ c.toNat := by
    unfold Config.glyphOf at glyph
    split at glyph
    · assumption
    · cases glyph
  rwa [Config.glyphBytes, if_pos printable, glyph] at bytes

/-- Settles O18: no move writes the configuration, and the font spaces are read by row. -/
theorem parametersNeverChange : Obligations.ParametersNeverChange := by
  refine ⟨fun s t stepped => ?_, fun cfg g r glyph found hr => ?_, fun cfg sp a => cfg.fontByte_isSome sp a,
    fun cfg inverted c g glyph => fontBytes_of_glyphOf inverted glyph⟩
  · exact (perform_cfg (s := s.consumeMove) stepped).trans s.consumeMove_cfg
  · rw [cfg.fontByte_row .fontN g hr, cfg.fontByte_row .fontI g hr, found]
    exact ⟨rfl, rfl⟩

/-! ### REFRESH_CONFIGURE, the tick and the handler -/

/-- Settles O53: the operation's body. -/
theorem refreshConfigures : Obligations.RefreshConfigures := by
  intro s atRest
  refine ⟨fun fresh => ?_, fun configured => ?_⟩
  · simp only [exec, execRefreshConfigure, whenIdle_idle atRest, fresh, State.finish, ← atRest, Bool.false_eq_true,
      if_false]
  · rw [exec, execRefreshConfigure, whenIdle_idle atRest, if_pos configured]

theorem perform_timerTick (s : State) : perform .timerTick s = .next (timerTick s) := rfl

/-- With the chain configured and no compare interrupt pending the event may happen (R244's second guard, log 10). -/
theorem cmpMatchEnabled_of_configured {s : State} (configured : s.refConfigured = true) (unraised : s.irqCmp = false) :
    cmpMatchEnabled s = true := by
  simp [cmpMatchEnabled, configured, unraised]

/-- Settles O55: the three moves where they are enabled. -/
theorem timerTicksAndRearms : Obligations.TimerTicksAndRearms := by
  refine fun s => ⟨perform_timerTick s, perform_hCmp, fun configured unraised => ?_⟩
  rw [perform_cmpMatch (cmpMatchEnabled_of_configured configured unraised), cmpMatch_eq, unraised]
  cases s.timerIntenCmp <;> rfl

/-! ### The compare event beside the other agents -/

/-- An enabled move of another agent than the main flow is that agent's step. -/
theorem perform_agent {m : Move} {s : State} (agent : m ≠ .mainFlow) (can : enabled s m = true) :
    perform m s = agentStep s m := by
  unfold perform
  rw [if_pos can]
  split
  · exact absurd rfl agent
  · rfl

/-- The bus engine, the converter, the completion handler and the timeout do the same after a compare event as before
it, and leave its guard (R76). -/
theorem perform_after_cmpMatch {s t : State} {m : Move}
    (other : m = .busByte ∨ m = .hAdc ∨ m = .toFire ∨ ∃ v, m = .adcComplete v) (run : perform m s = .next t) :
    perform m (cmpMatch s) = .next (cmpMatch t) ∧ cmpMatchEnabled t = cmpMatchEnabled s := by
  have guard : enabled (cmpMatch s) m = enabled s m := by
    rcases other with rfl | rfl | rfl | ⟨v, rfl⟩ <;> rfl
  rcases perform_cases run with ⟨-, rfl, -⟩ | ⟨can, notMain, agent⟩ | ⟨cannot, rfl⟩
  · simp at other
  · rw [perform_agent notMain (guard.trans can)]
    rcases other with rfl | rfl | rfl | ⟨v, rfl⟩
    case inl =>
      obtain ⟨inside, rfl⟩ := busByte_eq_next.mp agent
      exact ⟨busByte_eq_next.mpr ⟨inside, rfl⟩, rfl⟩
    all_goals
      cases agent
      exact ⟨rfl, rfl⟩
  · exact ⟨perform_disabled (guard.trans cannot), rfl⟩

/-- Settles O56: with the event enabled both orders end in the same state, and without it nothing is to commute. -/
theorem refreshIndependent : Obligations.RefreshIndependent := by
  intro s t u m other run compare
  obtain ⟨after, guard⟩ := perform_after_cmpMatch other run
  cases can : cmpMatchEnabled s with
  | true =>
    rw [perform_cmpMatch can] at compare
    cases compare
    exact ⟨_, perform_cmpMatch (guard.trans can), after⟩
  | false =>
    rw [perform_disabled (m := .cmpMatch) can] at compare
    cases compare
    exact ⟨_, perform_disabled (m := .cmpMatch) (guard.trans can), run⟩

/-! ### The configured chain -/

/-- What the chain is made of is in place (R241, R47(g)). -/
structure ChainOn (s : State) : Prop where
  configured : s.refConfigured = true
  channel : s.fabricChEn = true
  mode : s.gpioMode = .toggle
  interrupt : s.timerIntenCmp = true

theorem chainOn_of_inv {s : State} (h : inv s = true) (configured : s.refConfigured = true) : ChainOn s := by
  obtain ⟨channel, mode, interrupt⟩ := (refreshInv_iff.mp (inv_iff_parts.mp h).refresh).2.1 configured
  exact ⟨configured, channel, mode, interrupt⟩

/-- Nothing of the chain differs: what it is made of, the pin, the count of toggles and the pending interrupt. -/
structure SameChain (s t : State) : Prop where
  configured : t.refConfigured = s.refConfigured
  channel : t.fabricChEn = s.fabricChEn
  mode : t.gpioMode = s.gpioMode
  interrupt : t.timerIntenCmp = s.timerIntenCmp
  pin : t.vcomPin = s.vcomPin
  toggles : t.toggles = s.toggles
  pending : t.irqCmp = s.irqCmp

theorem SameChain.refl (s : State) : SameChain s s := ⟨rfl, rfl, rfl, rfl, rfl, rfl, rfl⟩

/-- Once configured no operation touches the chain: the second REFRESH_CONFIGURE is refused (R241, R247). -/
theorem exec_sameChain {i : Instr} {s t : State} (configured : s.refConfigured = true) (h : exec i s = .next t) :
    SameChain s t := by
  rcases exec_changes h with draws | transfers | ⟨-, sample⟩ | ⟨-, configure⟩
  · rw [draws]
    exact ⟨rfl, rfl, rfl, rfl, rfl, rfl, rfl⟩
  · rw [transfers]
    exact ⟨rfl, rfl, rfl, rfl, rfl, rfl, rfl⟩
  · rw [execSample_samplesOnly sample]
    exact ⟨rfl, rfl, rfl, rfl, rfl, rfl, rfl⟩
  · have fresh := (execRefreshConfigure_flags configure).2.2.2.1
    simp [configured] at fresh

/-- Nor does a move other than the compare event and its handler. -/
theorem perform_sameChain {m : Move} {s t : State} (configured : s.refConfigured = true) (notEvent : m ≠ .cmpMatch)
    (notHandler : m ≠ .hCmp) (h : perform m s = .next t) : SameChain s t := by
  rcases perform_cases h with ⟨-, -, main⟩ | ⟨-, -, agent⟩ | ⟨-, rfl⟩
  · unfold mainFlowStep at main
    split at main
    · have same := exec_sameChain (s := s.takeCommand) configured main
      exact ⟨same.configured, same.channel, same.mode, same.interrupt, same.pin, same.toggles, same.pending⟩
    · cases main
  · cases m with
    | cmpMatch => exact absurd rfl notEvent
    | hCmp => exact absurd rfl notHandler
    | busByte =>
      obtain ⟨-, rfl⟩ := busByte_eq_next.mp agent
      exact ⟨rfl, rfl, rfl, rfl, rfl, rfl, rfl⟩
    | _ =>
      cases agent
      exact ⟨rfl, rfl, rfl, rfl, rfl, rfl, rfl⟩
  · exact .refl _

/-- The compare event and its handler leave what the chain is made of. -/
theorem perform_chain {m : Move} {s t : State} (configured : s.refConfigured = true) (h : perform m s = .next t) :
    t.refConfigured = s.refConfigured ∧ t.fabricChEn = s.fabricChEn ∧ t.gpioMode = s.gpioMode ∧
      t.timerIntenCmp = s.timerIntenCmp := by
  by_cases special : m = .cmpMatch ∨ m = .hCmp
  · rcases perform_cases h with ⟨-, rfl, -⟩ | ⟨-, -, agent⟩ | ⟨-, rfl⟩
    · simp at special
    · rcases special with rfl | rfl <;> cases agent <;> exact ⟨rfl, rfl, rfl, rfl⟩
    · exact ⟨rfl, rfl, rfl, rfl⟩
  · rw [not_or] at special
    have same := perform_sameChain configured special.1 special.2 h
    exact ⟨same.configured, same.channel, same.mode, same.interrupt⟩

theorem ChainOn.perform {m : Move} {s t : State} (on : ChainOn s) (h : perform m s = .next t) : ChainOn t := by
  obtain ⟨configured, channel, mode, interrupt⟩ := perform_chain on.configured h
  exact ⟨configured.trans on.configured, channel.trans on.channel, mode.trans on.mode, interrupt.trans on.interrupt⟩

theorem ChainOn.toggleLinked {s : State} (on : ChainOn s) : toggleLinked s = true :=
  (toggleLinked_iff s).mpr ⟨on.channel, on.mode⟩

/-- Some number of ticks brings a counter below its width's size to any value below it (D26). -/
theorem exists_ticks {c d size : Nat} (hc : c < size) (hd : d < size) : ∃ n, (c + n) % size = d := by
  refine ⟨size - c + d, ?_⟩
  rw [show c + (size - c + d) = size + d by omega, Nat.add_mod_left, Nat.mod_eq_of_lt hd]

/-- The state after `n` ticks (R243). -/
theorem runMoves_timerTick {s : State} (counter : s.timerCnt < 2 ^ s.cfg.timerBits) (n : Nat) :
    runMoves (List.replicate n .timerTick) s =
      .next { s with timerCnt := (s.timerCnt + n) % 2 ^ s.cfg.timerBits } := by
  induction n with
  | zero => simp [runMoves, Nat.mod_eq_of_lt counter]
  | succ n ih =>
    rw [List.replicate_succ', runMoves_append, ih, andThen_next, runMoves_cons (perform_timerTick _), runMoves,
      timerTick]
    simp [Nat.add_assoc]

/-- From a configured state ticks bring the counter to the compare value, where the event toggles the pin. -/
theorem reaches_toggle {s : State} (h : inv s = true) (configured : s.refConfigured = true) :
    ∃ n t u, runMoves (List.replicate n .timerTick) s = .next t ∧ t.timerCnt = t.timerCc ∧
      perform .cmpMatch t = .next u ∧ u.vcomPin = !s.vcomPin ∧ u.toggles = s.toggles + 1 := by
  obtain ⟨counter, compare⟩ := (refreshInv_iff.mp (inv_iff_parts.mp h).refresh).1
  obtain ⟨n, reaches⟩ := exists_ticks counter compare
  have linked : toggleLinked { s with timerCnt := (s.timerCnt + n) % 2 ^ s.cfg.timerBits } = true :=
    (chainOn_of_inv h configured).toggleLinked
  exact ⟨n, _, _, runMoves_timerTick counter n, reaches, perform_cmpMatch (cmpMatchEnabled_of_coincide reaches),
    if_pos linked, if_pos linked⟩

/-! ### Fair runs of the chain -/

section
variable {trace : Nat → State} {ms : Nat → Move} (run : IsRun trace ms)
include run

/-- The chain stays on all along a run. -/
theorem IsRun.chainOn {n : Nat} (on : ChainOn (trace n)) {k : Nat} (later : n ≤ k) : ChainOn (trace k) :=
  run.keeps (fun _ _ _ on h => on.perform h) on k later

/-- In a run fair to its handler the compare interrupt is not pending for ever (R246). -/
theorem IsRun.exists_unraised {n : Nat} (fair : WeaklyFair trace ms .hCmp) : ∃ k, n ≤ k ∧ (trace k).irqCmp = false := by
  by_contra always
  push Not at always
  have pending : ∀ k, n ≤ k → (trace k).irqCmp = true := fun k later => by simpa using always k later
  obtain ⟨k, later, handled⟩ := fair n pending
  have move := run k
  rw [handled, perform_hCmp (pending k later)] at move
  have cleared : (trace (k + 1)).irqCmp = false := by
    rw [← Host.Outcome.next.inj move]
    rfl
  simp [pending (k + 1) (by omega)] at cleared

end

/-- With the chain on, the toggles count the compare events (R244). -/
theorem toggles_of_perform {m : Move} {s t : State} (on : ChainOn s) (h : perform m s = .next t) :
    t.toggles = s.toggles + if m = .cmpMatch ∧ cmpMatchEnabled s = true then 1 else 0 := by
  by_cases event : m = .cmpMatch
  · subst event
    cases can : cmpMatchEnabled s with
    | true =>
      rw [perform_cmpMatch can] at h
      cases h
      simp [cmpMatch, on.toggleLinked]
    | false =>
      rw [perform_disabled (m := .cmpMatch) can] at h
      cases h
      simp
  · rw [if_neg fun both => event both.1, Nat.add_zero]
    by_cases handler : m = .hCmp
    · rcases perform_cases h with ⟨-, main, -⟩ | ⟨-, -, agent⟩ | ⟨-, rfl⟩
      · simp [main] at handler
      · subst handler
        cases agent
        rfl
      · rfl
    · exact (perform_sameChain on.configured event handler h).toggles

/-- Only the compare event raises its interrupt (R244). -/
theorem unraised_of_perform {m : Move} {s t : State} (on : ChainOn s) (unraised : s.irqCmp = false)
    (noEvent : m ≠ .cmpMatch) (h : perform m s = .next t) : t.irqCmp = false := by
  by_cases handler : m = .hCmp
  · rw [handler, perform_disabled (by exact unraised)] at h
    cases h
    exact unraised
  · exact (perform_sameChain on.configured noEvent handler h).pending.trans unraised

section
variable {trace : Nat → State} {ms : Nat → Move} (run : IsRun trace ms) {n : Nat} (on : ChainOn (trace n))
include run on

/-- No move takes a toggle back. -/
theorem IsRun.toggles_mono {k : Nat} (later : n ≤ k) : (trace n).toggles ≤ (trace k).toggles := by
  induction k, later using Nat.le_induction with
  | base => exact Nat.le_refl _
  | succ k later ih =>
    have counted := toggles_of_perform (run.chainOn on later) (run k)
    omega

/-- In a run fair to the compare event, it happens once its interrupt is not pending (R244, R248). -/
theorem IsRun.exists_toggle (fair : WeaklyFair trace ms .cmpMatch) (unraised : (trace n).irqCmp = false) :
    ∃ k, n ≤ k ∧ (trace (k + 1)).toggles = (trace k).toggles + 1 := by
  by_contra never
  push Not at never
  have step {k : Nat} (later : n ≤ k) (ready : (trace k).irqCmp = false) :
      cmpMatchEnabled (trace k) = true ∧ ms k ≠ .cmpMatch := by
    have onThen := run.chainOn on later
    have can := cmpMatchEnabled_of_configured onThen.configured ready
    refine ⟨can, fun event => never k later ?_⟩
    rw [toggles_of_perform onThen (run k), if_pos ⟨event, can⟩]
  have ready : ∀ k, n ≤ k → (trace k).irqCmp = false := by
    intro k later
    induction k, later using Nat.le_induction with
    | base => exact unraised
    | succ k later ih => exact unraised_of_perform (run.chainOn on later) ih (step later ih).2 (run k)
  obtain ⟨k, later, event⟩ := fair n fun k later => (step later (ready k later)).1
  exact (step later (ready k later)).2 event

/-- In a run fair to both the toggles pass every bound (R248). -/
theorem IsRun.toggles_unbounded (event : WeaklyFair trace ms .cmpMatch) (handler : WeaklyFair trace ms .hCmp)
    (bound : Nat) : ∃ k, n ≤ k ∧ bound ≤ (trace k).toggles := by
  induction bound with
  | zero => exact ⟨n, Nat.le_refl n, Nat.zero_le _⟩
  | succ bound ih =>
    obtain ⟨k, later, reached⟩ := ih
    have onThen := run.chainOn on later
    obtain ⟨j, unraisedLater, unraised⟩ := run.exists_unraised (n := k) handler
    obtain ⟨i, toggleLater, toggled⟩ := run.exists_toggle (run.chainOn onThen unraisedLater) event unraised
    have kept := run.toggles_mono onThen (unraisedLater.trans toggleLater)
    exact ⟨i + 1, by omega, by omega⟩

end

/-- Settles O16: the chain is kept, a compare value is reached by ticks, and fair runs keep toggling. -/
theorem refreshNeverStops : Obligations.RefreshNeverStops := by
  intro s configured
  refine ⟨fun t stepped => ?_, fun i t h => (exec_sameChain configured h).pin, fun h => reaches_toggle h configured,
    fun h trace ms start run event handler bound => ?_⟩
  · have kept := perform_chain (s := s.consumeMove) (by simpa using configured) stepped
    simpa [configured] using kept
  · have on : ChainOn (trace 0) := start ▸ chainOn_of_inv h configured
    obtain ⟨k, -, reached⟩ := run.toggles_unbounded on event handler bound
    exact ⟨k, reached⟩

end Sys2Proof.Machine
end

section
/-! SUPPORT. Fair runs of SAMPLE's wait and of the bus engine (R142, R211), and the statements about them. -/

namespace Sys2Proof.Machine

/-! ### SAMPLE's wait -/

/-- SAMPLE waits on a request whose timeout has not fired (R132, R142). -/
structure Converting (s : State) : Prop where
  waits : s.mf = .sample .wait
  busy : s.busy = true
  notFired : s.timedOut = false
  armed : s.toArmed = true

/-- While the wait is not over the main flow has no step (R132). -/
theorem disabled_at_wait {s : State} (waits : s.mf = .sample .wait) (waiting : waitOver s = false) :
    enabled s .mainFlow = false := by
  simp [enabled, mainFlowEnabled, mainFlowGuard, waits, waiting]

/-- A move at the wait leaves SAMPLE waiting or brings the wait's end. -/
theorem Converting.perform {m : Move} {s t : State} (h : Converting s) (run : perform m s = .next t) :
    Converting t ∨ t.mf = .sample .wait ∧ (t.busy = false ∨ t.timedOut = true) := by
  obtain ⟨waits, busy, notFired, armed⟩ := h
  rcases perform_cases run with ⟨can, rfl, -⟩ | ⟨-, -, agent⟩ | ⟨-, rfl⟩
  · have cannot := disabled_at_wait waits (waitOver_eq_false_iff.mpr ⟨busy, notFired⟩)
    simp [cannot] at can
  · cases m with
    | hAdc =>
      cases agent
      exact .inr ⟨waits, .inl rfl⟩
    | toFire =>
      cases agent
      exact .inr ⟨waits, .inr rfl⟩
    | busByte =>
      obtain ⟨-, rfl⟩ := busByte_eq_next.mp agent
      exact .inl ⟨waits, busy, notFired, armed⟩
    | _ =>
      cases agent
      exact .inl ⟨waits, busy, notFired, armed⟩
  · exact .inl ⟨waits, busy, notFired, armed⟩

/-- In a run fair to the expiry the wait comes to its end (R142): else the timeout would stay armed for ever, and so
fire. -/
theorem IsRun.wait_ends {trace : Nat → State} {ms : Nat → Move} (run : IsRun trace ms)
    (fair : WeaklyFair trace ms .toFire) (start : Converting (trace 0)) :
    ∃ n, (trace n).mf = .sample .wait ∧ ((trace n).busy = false ∨ (trace n).timedOut = true) := by
  by_contra never
  have converting : ∀ n, Converting (trace n) := by
    intro n
    induction n with
    | zero => exact start
    | succ n ih => exact (ih.perform (run n)).resolve_right fun ended => never ⟨n + 1, ended⟩
  obtain ⟨n, -, fires⟩ := fair 0 fun n _ => (converting n).armed
  have move := run n
  rw [fires, perform_toFire (converting n).armed] at move
  have notFired := (converting (n + 1)).notFired
  rw [← Host.Outcome.next.inj move] at notFired
  cases notFired

/-- At the wait under the invariant a request whose timeout has not fired has it armed (R47). -/
theorem converting_of_inv {s : State} (h : inv s = true) (waits : s.mf = .sample .wait) (busy : s.busy = true)
    (notFired : s.timedOut = false) : Converting s := by
  have sampler := samplerInv_of_inv h
  exact ⟨waits, busy, notFired, by simp_all [samplerInv, samplerInFlight]⟩

/-- Settles O20: the wait's step, and either its end is there at once or the timeout is armed. -/
theorem sampleWaits : Obligations.SampleWaits := by
  intro s waits
  refine ⟨fun passed => ?_, fun busy notFired => ⟨?_, ?_⟩, fun h trace ms start run fair => ?_⟩
  · rw [exec_sample_wait waits, if_pos (waitOver_iff.mpr passed), State.standAt]
  · simp [exec_sample_wait waits, waitOver_eq_false_iff.mpr ⟨busy, notFired⟩]
  · exact disabled_at_wait waits (waitOver_eq_false_iff.mpr ⟨busy, notFired⟩)
  · by_cases passed : s.busy = false ∨ s.timedOut = true
    · exact ⟨0, start ▸ ⟨waits, passed⟩⟩
    · rw [not_or, Bool.not_eq_false, Bool.not_eq_true] at passed
      exact run.wait_ends fair (start ▸ converting_of_inv h waits passed.1 passed.2)

/-! ### The segment -/

/-- The operation in the command word leaves an active segment's rest: a transfer is refused or waits (R210, R217). -/
theorem exec_busRem_of_active {i : Instr} {s t : State} {w : Word} (decoded : decode w = .ok i)
    (active : s.busActive = true) (h : exec i s = .next t) : t.busRem = s.busRem := by
  have flush {start stop : Nat} (h : flushLines start stop s = .next t) : t.busRem = s.busRem := by
    obtain ⟨-, ⟨-, idle, -⟩ | ⟨-, rfl⟩ | ⟨-, idle, -⟩⟩ := flushLines_eq_next.mp h
    · simp [active] at idle
    · rw [if_pos active]
    · simp [active] at idle
  cases i with
  | clearScreen =>
    obtain ⟨-, idle, -⟩ := exec_clearScreen_eq_next.mp h
    simp [active] at idle
  | flushLine =>
    obtain ⟨-, idle, -⟩ := exec_flushLine_eq_next.mp h
    simp [active] at idle
  | flushRange => exact flush h
  | flushAll => exact flush (start := 0) (stop := 96) h
  | waitIdle =>
    obtain ⟨-, rfl⟩ := exec_waitIdle_eq_next.mp h
    rw [if_pos active, State.standAt]
  | cmdClear | cmdWriteOneLine | cmdWriteMultipleLines => simpa using not_wire_of_decode decoded
  | sample => rw [execSample_samplesOnly h]
  | refreshConfigure =>
    have body := (whenIdle_eq_next.mp h).2
    split at body <;> cases body
    rfl
  | writeText => rw [execWriteText_drawsOnly h]
  | writeRegion => rw [execWriteRegion_drawsOnly h]
  | ovClock => rw [execOvClock_drawsOnly h]
  | ovBattery => rw [execOvBattery_drawsOnly h]
  | ovConnection | ovSampling => rw [drawIndicator_drawsOnly (whenIdle_eq_next.mp h).2]
  | ovFix => rw [execOvFix_drawsOnly h]

/-- On an active segment only the bus engine counts the bytes left (R71, R211). -/
theorem perform_busRem_of_active {m : Move} {s t : State} (active : s.busActive = true) (notEngine : m ≠ .busByte)
    (run : perform m s = .next t) : t.busRem = s.busRem := by
  rcases perform_cases run with ⟨-, -, main⟩ | ⟨-, -, agent⟩ | ⟨-, rfl⟩
  · unfold mainFlowStep at main
    split at main
    · next holds => exact exec_busRem_of_active (s := s.takeCommand) holds active main
    · cases main
  · cases m with
    | busByte => exact absurd rfl notEngine
    | _ =>
      cases agent
      rfl
  · rfl

theorem perform_busByte {s : State} (active : s.busActive = true) : perform .busByte s = busByte s :=
  perform_agent (by simp) active

/-- A step of the bus engine that leaves the segment active leaves fewer bytes of it. -/
theorem busRem_lt_of_busByte {s t : State} (active : s.busActive = true) (run : perform .busByte s = .next t)
    (still : t.busActive = true) : t.busRem < s.busRem := by
  rw [perform_busByte active] at run
  obtain ⟨-, rfl⟩ := busByte_eq_next.mp run
  simp only [active, Bool.true_and, decide_eq_true_eq] at still
  show s.busRem - 1 < s.busRem
  omega

section
variable {trace : Nat → State} {ms : Nat → Move} (run : IsRun trace ms) (always : ∀ n, (trace n).busActive = true)
include run always

theorem IsRun.busRem_le {n k : Nat} (later : n ≤ k) : (trace k).busRem ≤ (trace n).busRem := by
  induction k, later using Nat.le_induction with
  | base => exact Nat.le_refl _
  | succ k _ ih =>
    refine Nat.le_trans ?_ ih
    by_cases engine : ms k = .busByte
    · exact (busRem_lt_of_busByte (always k) (engine ▸ run k) (always (k + 1))).le
    · exact (perform_busRem_of_active (always k) engine (run k)).le

/-- A segment that never ended would have fewer and fewer bytes left, in a run fair to the bus engine. -/
theorem IsRun.segment_contradiction (fair : WeaklyFair trace ms .busByte) (left n : Nat) :
    (trace n).busRem ≠ left := by
  induction left using Nat.strong_induction_on generalizing n with
  | _ left ih =>
    intro count
    obtain ⟨k, later, engine⟩ := fair n fun k _ => always k
    have fewer := busRem_lt_of_busByte (always k) (engine ▸ run k) (always (k + 1))
    have atMost := run.busRem_le always later
    exact ih (trace (k + 1)).busRem (by omega) (k + 1) rfl

end

/-- Settles O50: the engine's step by what is left of the segment, and a count that fairness brings down. -/
theorem busEngineEmits : Obligations.BusEngineEmits := by
  intro s active
  rw [perform_busByte active]
  refine ⟨busByte_middle, busByte_last_auto, busByte_last_manual, fun outside => ?_, fun trace ms _ run fair => ?_⟩
  · rw [busByte, if_neg (by omega)]
  · by_contra never
    push Not at never
    exact run.segment_contradiction (fun n => by simpa using never n) fair _ 0 rfl

end Sys2Proof.Machine
end

section
/-! SUPPORT. The host's port writes (R21, R98, R104, R281), and the statement about them. -/

namespace Sys2Proof.Machine

/-- One of the host's writes (R281). -/
theorem runMoves_hostWrite {m : Move} {s t : State} (can : enabled s m = true) (notMain : m ≠ .mainFlow)
    (write : agentStep s m = .next t) : runMoves [m] s = .next t :=
  runMoves_cons ((perform_agent notMain can).trans write) []

/-- The host writes bytes of `PAY` one after another. -/
theorem runMoves_hostPay {s : State} (can : hostEnabled s = true) (cells : List (Fin 32 × Byte)) :
    runMoves (cells.map fun c => .hostPay c.1 c.2) s =
      .next { s with pay := Memory.writeAll .pay s.pay (cells.map fun c => (c.1.val, c.2)) } := by
  induction cells generalizing s with
  | nil => rfl
  | cons c cells ih =>
    have write : perform (.hostPay c.1 c.2) s = .next { s with pay := Memory.write .pay s.pay c.1.val c.2 } :=
      perform_agent (by simp) can
    rw [List.map_cons, runMoves_cons write]
    exact ih can

/-- Numbered from `a` on, bytes are the cells laid out from there. -/
theorem zip_range'_eq_cellsFrom (bytes : List Byte) (a n : Nat) (room : bytes.length ≤ n) :
    (List.range' a n).zip bytes = cellsFrom a bytes := by
  induction bytes generalizing a n with
  | nil => simp [cellsFrom]
  | cons b bytes ih =>
    obtain ⟨n, rfl⟩ : ∃ m, n = m + 1 := ⟨n - 1, by simp at room; omega⟩
    rw [List.range'_succ, List.zip_cons_cons, cellsFrom, ih _ _ (by simpa using room)]

/-- The addresses of the host's writes of a payload are those from 0 on. -/
theorem payload_cells {bytes : List Byte} (room : bytes.length ≤ 32) :
    ((List.finRange 32).zip bytes).map (fun c => (c.1.val, c.2)) = cellsFrom 0 bytes := by
  rw [← zip_range'_eq_cellsFrom bytes 0 32 room, ← List.range_eq_range', ← List.map_coe_finRange_eq_range,
    List.zip_map_left]
  rfl

/-- `PAY` and `PAYLEN` after the host has written a byte operand (R104). -/
def State.withPayload (s : State) (bytes : List Byte) (room : bytes.length < 33) : State :=
  { s with pay := Memory.writeAll .pay s.pay (cellsFrom 0 bytes), payLen := ⟨bytes.length, room⟩ }

/-- The host's writes of a byte operand (R98, R104). -/
theorem runMoves_payload {s : State} {bytes : List Byte} {ms : List Move} (can : hostEnabled s = true)
    (writes : payloadMoves bytes = some ms) :
    ∃ room : bytes.length < 33, runMoves ms s = .next (s.withPayload bytes room) := by
  unfold payloadMoves at writes
  split at writes
  · next room =>
    cases writes
    refine ⟨room, ?_⟩
    rw [runMoves_append, runMoves_hostPay can, andThen_next, payload_cells (by omega)]
    exact runMoves_hostWrite can (by simp) rfl
  · cases writes

/-- The byte operand is read back (R104). -/
theorem payload_withPayload {s : State} {bytes : List Byte} {room : bytes.length < 33}
    (canonical : Memory.wf .pay s.pay = true) : (s.withPayload bytes room).payload = bytes := by
  refine List.ext_getElem (by simp [State.withPayload]) fun k _ hk => ?_
  have stored : (0 + k, bytes[k]) ∈ cellsFrom 0 bytes := mem_cellsFrom.mpr ⟨k, rfl, List.getElem?_eq_getElem hk⟩
  have fits : 0 + bytes.length ≤ Space.pay.size := by
    simp only [Space.size]
    omega
  simpa [State.payload, State.loadBytes, State.load, State.mem, State.withPayload] using
    Memory.read_writeAll_mem canonical (cellsFrom_inside fits) (nodup_cellsFrom 0 bytes) stored

/-- `ARGW` after the host has written a word operand, where there is one (R98). -/
def State.withArgw (s : State) (operand : Option Word) : State :=
  { s with argw := operand.getD s.argw }

theorem runMoves_hostArgw {s : State} (can : hostEnabled s = true) (operand : Option Word) :
    runMoves (operand.toList.map .hostArgw) s = .next (s.withArgw operand) := by
  cases operand with
  | none => rfl
  | some v => exact runMoves_hostWrite can (by simp) rfl

/-- The host's write of the command word (R97). -/
theorem runMoves_hostCommand {s : State} (can : hostEnabled s = true) (cw : Word) :
    runMoves [.hostCommand cw] s = .next (hostCommand cw s) :=
  runMoves_hostWrite can (by simp) rfl

/-- The writes that issue a command: a word operand, a byte operand, the word (R97, R98, R104). -/
def commandWrites (argw : Option Word) (payload : List Move) (cw : Word) : List Move :=
  argw.toList.map .hostArgw ++ payload ++ [.hostCommand cw]

theorem moves_eq_some {c : Command} {ms : List Move} (h : c.moves = some ms) :
    ∃ cw payload, encode c.instr = some cw ∧ ms = commandWrites c.argw payload cw ∧
      (c.payload = none ∧ payload = [] ∨ ∃ bytes, c.payload = some bytes ∧ payloadMoves bytes = some payload) := by
  obtain ⟨cw, word, rest⟩ := Option.bind_eq_some_iff.mp h
  cases present : c.payload with
  | none =>
    rw [present] at rest
    exact ⟨cw, [], word, (Option.some.inj rest).symm, .inl ⟨rfl, rfl⟩⟩
  | some bytes =>
    rw [present] at rest
    obtain ⟨payload, writes, whole⟩ := Option.bind_eq_some_iff.mp rest
    exact ⟨cw, payload, word, (Option.some.inj whole).symm, .inr ⟨bytes, rfl, writes⟩⟩

/-- Settles O59: the writes one after another; the word decodes and the payload is read back. -/
theorem hostIssuesCommand : Obligations.HostIssuesCommand := by
  intro s c ms h can moves
  obtain ⟨-, -, canonical⟩ := memoryInv_iff.mp (inv_iff_parts.mp h).memory
  obtain ⟨cw, payload, word, rfl, operand⟩ := moves_eq_some moves
  have decoded := decodeOfEncode c.instr cw word
  have argwSome : ∀ v, c.argw = some v → (s.withArgw c.argw).argw = v := fun v argw => by
    simp [State.withArgw, argw]
  have argwNone : c.argw = none → (s.withArgw c.argw).argw = s.argw := fun argw => by
    simp [State.withArgw, argw]
  rcases operand with ⟨absent, rfl⟩ | ⟨bytes, present, writes⟩
  · refine ⟨hostCommand cw (s.withArgw c.argw), ?_, rfl, decoded, argwSome, ?_, argwNone, fun _ => ⟨rfl, rfl⟩, rfl⟩
    · rw [commandWrites, List.append_nil, runMoves_append, runMoves_hostArgw can, andThen_next]
      exact runMoves_hostCommand (s := s.withArgw c.argw) can cw
    · simp [absent]
  · obtain ⟨room, wrote⟩ := runMoves_payload (s := s.withArgw c.argw) can writes
    refine ⟨hostCommand cw ((s.withArgw c.argw).withPayload bytes room), ?_, rfl, decoded, argwSome,
      fun bytes' same => ?_, argwNone, ?_, rfl⟩
    · rw [commandWrites, runMoves_append, runMoves_append, runMoves_hostArgw can, andThen_next, wrote, andThen_next]
      exact runMoves_hostCommand (s := (s.withArgw c.argw).withPayload bytes room) can cw
    · obtain rfl : bytes = bytes' := Option.some.inj (present.symm.trans same)
      exact payload_withPayload (s := s.withArgw c.argw) canonical
    · simp [present]

end Sys2Proof.Machine
end
